-- ==== Sys2Proof/Word.lean ====
section
/-! DEFINITION. The words of the block: bytes, the request header word, a frame-port lane and a colour. -/

namespace Sys2Proof

/-- A byte: 8 bits (R10). -/
abbrev Byte := BitVec 8

/-- The 32-bit request header word `REQ` (R61). -/
abbrev ReqWord := BitVec 32

/-- One 24-bit lane of the host frame port `FRM` (R64). -/
abbrev Lane := BitVec 24

/-- The 16-bit response word `RSP` (R29, R66). -/
abbrev RspWord := BitVec 16

/-- A colour: three 8-bit channels, no alpha (R21). -/
structure Color where
  r : Byte
  g : Byte
  b : Byte
deriving DecidableEq, Repr

end Sys2Proof
end

