-- ==== Sys2Proof/Config.lean ====
section
/-! DEFINITION. The parameters of the block: those the source fixes (R6), those derived from them (R7), those this
spec decides (R9), and the open ones (R8), which are opaque: no proof can see their values. -/

namespace Sys2Proof

namespace Config

/-! ### Fixed by the source (R6) -/

/-- `PKT_SIZE`: bytes of one report buffer (R6). -/
abbrev pktSize : Nat := 64

/-- `PAYLOAD_OFF`: byte offset of the first colour byte of a KEYCOLORS packet (R6). -/
abbrev payloadOff : Nat := 8

/-- `KEY_CAP`: keys per frame (R6). -/
abbrev keyCap : Nat := 126

/-- `KEYS_PER_PKT`: keys per KEYCOLORS packet (R6). -/
abbrev keysPerPkt : Nat := 18

/-- `RUN_THRESHOLD`: largest number of RunDiffs still sent as a partial update (R6, R161). -/
abbrev runThreshold : Nat := 6

/-- `PROFILE_SLOTS`: profile slots, numbered 1 to 3 (R6). -/
abbrev profileSlots : Nat := 3

/-- `PROFILE_TMPL_LEN`: bytes of the set-profile template (R6). -/
abbrev profileTmplLen : Nat := 59

/-- `TX_LEN`: payload bytes handed to the transport, `PKT_SIZE − 1` (R6). -/
abbrev txLen : Nat := 63

/-- `2 ^ CKSUM_BITS`: the checksum is taken mod 65536 (R6, R97). -/
abbrev cksumMod : Nat := 65536

/-! ### Derived (R7) -/

/-- `CHUNK_BYTES`: colour bytes of a full chunk (R7). -/
def chunkBytes : Nat := (pktSize - payloadOff) / 3 * 3

/-- `FULL_PKTS`: KEYCOLORS packets of a full frame (R7). -/
def fullPkts : Nat := (keyCap + (keysPerPkt - 1)) / keysPerPkt

/-! ### Decided by the spec (R9) -/

/-- `SHADOW_RESET_COLOR` = (0xFF, 0xFF, 0xFF) (R9, R22). -/
def shadowResetColor : Color := ⟨0xFF, 0xFF, 0xFF⟩

/-- `DEFAULT_INIT_COLOR` = (0xFF, 0xFF, 0xFF), "all-white" (R9, R23). -/
def defaultInitColor : Color := ⟨0xFF, 0xFF, 0xFF⟩

/-- `GAP_LIMIT`: `none` is "unlimited", this spec's value; `some g` gives R159 its other readings (R9). -/
def gapLimit : Option Nat := none

/-- `ACC_DEN`: denominator of the accuracy field (R9, R65). -/
abbrev accDen : Nat := 32768

/-- `NO_DEVICE_IS_ERROR`: a write with no device attached is a TransportError (R9, R92). -/
def noDeviceIsError : Bool := true

end Config

/-- The open parameters of R8, "a named parameter the model takes as an argument". `PROFILE_BASE` is held as its
distance from 3 and `PROFILE_SEL_POS` as an index of the template, so that the bounds of R125 hold of every value. -/
structure Params where
  reportId : Byte
  cmdStart : Byte
  /-- `CMD_END`. -/
  cmdStop : Byte
  cmdSubcommand : Byte
  cmdKeycolors : Byte
  subMode : Byte
  subPoll : Byte
  subDelay : Byte
  argModeCustom : Byte
  argPoll : Byte
  argDelay : Byte
  profileTemplate : Vector Byte Config.profileTmplLen
  profileBaseAbove3 : Fin 3
  profileSelPos : Fin 59
deriving DecidableEq, Repr, Inhabited

/-- `PROFILE_BASE`: packet offset of template byte 0, with `3 ≤ PROFILE_BASE ≤ 5` (R8, R125). -/
abbrev Params.profileBase (c : Params) : Nat := 3 + c.profileBaseAbove3.val

/-- R76: the four command codes are pairwise distinct. Only decoding a trace (R85) depends on it, so the machine
does not assume it. -/
abbrev Params.CodesDistinct (c : Params) : Prop :=
  [c.cmdStart, c.cmdStop, c.cmdSubcommand, c.cmdKeycolors].Nodup

/-- The values of the open parameters for this block, constant for its lifetime (R8, R205, R207). The source gives
none of them, so they are free values. DESIGN CHOICE of form (log entry 1), safe: a claim holds for every value. -/
opaque Config.params : Params

end Sys2Proof
end

