-- ==== Sys2Proof/Syntax.lean ====
section
/-! DEFINITION. The instructions: one constructor per row of spec/opcode_table.json. The first eight are the host's
requests (R61, R62), the last five the reports the sequencer sends (R68 to R73). -/

namespace Sys2Proof

/-- The fields of a request header beside its op code (R61). All of them are kept, also those an op ignores:
acceptance latches `PROF`, `UF` and `ACC` whatever the op is (R110), and `Check` reads the reserved bits (R63). -/
structure Header where
  /-- `PROF`, bits [4:3]. -/
  prof : BitVec 2
  /-- `UF`, bit [5]. -/
  uf : BitVec 1
  /-- Reserved bits [7:6], must be 0. -/
  rsv76 : BitVec 2
  /-- `LEN`, bits [14:8]. -/
  len : BitVec 7
  /-- Reserved bit [15], must be 0. -/
  rsv15 : BitVec 1
  /-- `ACC`, bits [31:16]. -/
  acc : BitVec 16
deriving DecidableEq, Repr

/-- One constructor per row of the opcode table. -/
inductive Instr where
  /-- Row INIT, OP = 000 (R124). -/
  | init (h : Header)
  /-- Row WRITE_FRAME, OP = 001 (R167). -/
  | writeFrame (h : Header)
  /-- Row WRITE_FULL_FRAME, OP = 010 (R143). -/
  | writeFullFrame (h : Header)
  /-- Row SELECT, OP = 100 (R121). -/
  | select (h : Header)
  /-- Row OPEN, OP = 101 (R122). -/
  | openChannel (h : Header)
  /-- Row CLOSE, OP = 110 (R123). -/
  | closeChannel (h : Header)
  /-- Row reserved_011 (R79). -/
  | reserved011 (h : Header)
  /-- Row reserved_111 (R79). -/
  | reserved111 (h : Header)
  /-- Row START (R69, R103). -/
  | startReport
  /-- Row END (R70, R104). -/
  | endReport
  /-- Row SUBCOMMAND, `SUB(s, a)` (R71, R107). -/
  | subcommand (s a : Byte)
  /-- Row KEYCOLORS, `KC(first, len)` (R72, R108). -/
  | keycolors (first len : Nat)
  /-- Row SET_PROFILE, `PROFILE(p)` (R73, R125). -/
  | setProfile (p : BitVec 2)
deriving DecidableEq, Repr

/-- The op code and header of a request; `none` for a report (R61, R62). -/
def Instr.request? : Instr → Option (BitVec 3 × Header)
  | .init h => some (0b000, h)
  | .writeFrame h => some (0b001, h)
  | .writeFullFrame h => some (0b010, h)
  | .reserved011 h => some (0b011, h)
  | .select h => some (0b100, h)
  | .openChannel h => some (0b101, h)
  | .closeChannel h => some (0b110, h)
  | .reserved111 h => some (0b111, h)
  | .startReport => none
  | .endReport => none
  | .subcommand _ _ => none
  | .keycolors _ _ => none
  | .setProfile _ => none

end Sys2Proof
end

