-- ==== Sys2Proof/WellFormed.lean ====
section
/-! DEFINITION. The operand ranges the spec gives an instruction. -/

namespace Sys2Proof

/-- The header has its reserved bits [7:6] and [15] clear (R63). Not part of `wellFormed`: `Check` answers such a
request. -/
abbrev Header.ReservedClear (h : Header) : Prop := h.rsv76 = 0 ∧ h.rsv15 = 0

/-- The range of a KEYCOLORS descriptor: `1 ≤ len ≤ 18` and `first + len ≤ 126` (R72, R108). -/
abbrev keyRangeOk (first len : Nat) : Bool :=
  decide (1 ≤ len) && decide (len ≤ Config.keysPerPkt) && decide (first + len ≤ Config.keyCap)

/-- Operand ranges. Every header word can be presented (a bad one is answered by `Check`, R185), so every request is
well formed; a KEYCOLORS descriptor lies in the range of R72, a profile in 1 to 3 (R73). -/
def Instr.wellFormed : Instr → Bool
  | .init _ => true
  | .writeFrame _ => true
  | .writeFullFrame _ => true
  | .select _ => true
  | .openChannel _ => true
  | .closeChannel _ => true
  | .reserved011 _ => true
  | .reserved111 _ => true
  | .startReport => true
  | .endReport => true
  | .subcommand _ _ => true
  | .keycolors first len => keyRangeOk first len
  | .setProfile p => decide (p ≠ 0)

end Sys2Proof
end

