-- ==== Sys2Proof/Decode.lean ====
section
/-! DEFINITION. The two encoding domains (R60): the 32-bit request word and the 64-byte report, decoder and encoder.
The report layout is written here byte by byte from the tables of R68 to R73; the machine builds its packets by the
procedure of R95 and R101 instead (Machine/Ops.lean), and the two are to be proved equal. -/

namespace Sys2Proof

/-- A frame: 126 colours indexed by key (R12, R22). -/
abbrev Frame := Vector Color Config.keyCap

/-- Low byte of `LE16(v)` (R10, R42). -/
def le16Lo (v : Nat) : Byte := BitVec.ofNat 8 (v % 256)

/-- High byte of `LE16(v)` (R10, R42). -/
def le16Hi (v : Nat) : Byte := BitVec.ofNat 8 (v / 256)

/-- The colour of key `k`. No rule forms an index of 126 or more (R49). -/
def keyRead (f : Frame) (k : Nat) : Color :=
  if h : k < Config.keyCap then f[k] else ⟨0, 0, 0⟩

/-- Channel `n mod 3` of a colour in the byte order r, g, b (R21, R41). -/
def Color.channel (c : Color) : Nat → Byte
  | 0 => c.r
  | 1 => c.g
  | _ => c.b

/-- What the decoder rejects, by name. -/
inductive DecodeError where
  /-- A report that is not 64 bytes long (R68). -/
  | wrongLength (n : Nat)
  /-- Byte 3 is none of the four command codes (R85). -/
  | unknownCommand (b : Byte)
  /-- Byte 0 is not `REPORT_ID` (R68). -/
  | badReportId (b : Byte)
  /-- Bytes 1 and 2 are not the checksum of bytes 3 to 63 (R68, R109). -/
  | badChecksum
  /-- An operand outside its range (R72, R73). -/
  | badOperand
  /-- A byte that the kind's rule does not set, or sets to a computed value, holds something else (R68, R77). -/
  | strayByte
deriving DecidableEq, Repr

/-- The bits of an instruction in their domain (R60). -/
inductive Encoded where
  | request (w : ReqWord)
  | report (bytes : List Byte)
deriving DecidableEq, Repr

/-! ### Requests (R61, R62) -/

/-- The header fields of `REQ` (R61). -/
def headerOf (w : ReqWord) : Header where
  prof := w.extractLsb' 3 2
  uf := w.extractLsb' 5 1
  rsv76 := w.extractLsb' 6 2
  len := w.extractLsb' 8 7
  rsv15 := w.extractLsb' 15 1
  acc := w.extractLsb' 16 16

/-- The request a header word stands for. Every 32-bit word is one: the reserved op codes are requests that raise
ValidationError (R62, R79), and reserved bits are the header's own fields. -/
def decodeRequest (w : ReqWord) : Instr :=
  match (w.extractLsb' 0 3).toNat with
  | 0 => .init (headerOf w)
  | 1 => .writeFrame (headerOf w)
  | 2 => .writeFullFrame (headerOf w)
  | 3 => .reserved011 (headerOf w)
  | 4 => .select (headerOf w)
  | 5 => .openChannel (headerOf w)
  | 6 => .closeChannel (headerOf w)
  | _ => .reserved111 (headerOf w)

/-- `REQ` from its fields, most significant first (R61). -/
def encodeRequest (op : BitVec 3) (h : Header) : ReqWord :=
  h.acc ++ h.rsv15 ++ h.len ++ h.rsv76 ++ h.uf ++ h.prof ++ op

/-! ### Report layout (R68 to R73) -/

/-- Byte `n` (3 to 63) of the report an instruction emits, from the layout tables; 0 where the kind's rule sets none
(R77). Requests emit no report of their own. -/
def layoutByte (c : Params) (tgt : Frame) (i : Instr) (n : Nat) : Byte :=
  match i with
  | .startReport => if n = 3 then c.cmdStart else 0
  | .endReport => if n = 3 then c.cmdStop else 0
  | .subcommand s a =>
    if n = 3 then c.cmdSubcommand else if n = 4 then s else if n = 8 then a else 0
  | .keycolors first len =>
    if n = 3 then c.cmdKeycolors
    else if n = 4 then BitVec.ofNat 8 (3 * len)
    else if n = 5 then le16Lo (3 * first)
    else if n = 6 then le16Hi (3 * first)
    else if Config.payloadOff ≤ n ∧ n < Config.payloadOff + 3 * len then
      (keyRead tgt (first + (n - Config.payloadOff) / 3)).channel ((n - Config.payloadOff) % 3)
    else 0
  | .setProfile p =>
    if n < c.profileBase ∨ c.profileBase + Config.profileTmplLen ≤ n then 0
    else if n = c.profileBase + c.profileSelPos.val then BitVec.ofNat 8 (p.toNat - 1)
    else c.profileTemplate.toList.getD (n - c.profileBase) 0
  | .init _ | .writeFrame _ | .writeFullFrame _ | .select _ | .openChannel _ | .closeChannel _
  | .reserved011 _ | .reserved111 _ => 0

/-- `(Σ_{i=3}^{63} b[i]) mod 65536` of a report's bytes (R68, R97). -/
def layoutChecksum (bytes : List Byte) : Nat :=
  ((bytes.drop 3).map BitVec.toNat).sum % Config.cksumMod

/-- The 64 bytes of the report an instruction emits: report id, checksum LE16, then the layout (R68). -/
def encodeReport (c : Params) (tgt : Frame) (i : Instr) : List Byte :=
  let body := (List.range 61).map fun j => layoutByte c tgt i (j + 3)
  let cks := layoutChecksum (0 :: 0 :: 0 :: body)
  c.reportId :: le16Lo cks :: le16Hi cks :: body

/-- Is byte `n` colour payload, that is, data and no operand (R72)? -/
def payloadByte (i : Instr) (n : Nat) : Bool :=
  match i with
  | .keycolors _ len => decide (Config.payloadOff ≤ n) && decide (n < Config.payloadOff + 3 * len)
  | .startReport | .endReport | .subcommand _ _ | .setProfile _ => false
  | .init _ | .writeFrame _ | .writeFullFrame _ | .select _ | .openChannel _ | .closeChannel _
  | .reserved011 _ | .reserved111 _ => false

/-- Does every byte 3 to 63 that is no colour payload stand as the layout of `i` has it? -/
def layoutFits (c : Params) (bytes : List Byte) (i : Instr) : Bool :=
  (List.range 61).all fun j =>
    payloadByte i (j + 3) ||
      decide (bytes.getD (j + 3) 0 = layoutByte c (Vector.replicate _ ⟨0, 0, 0⟩) i (j + 3))

/-- The report kind and operands that the operand bytes name. A profile packet is known by its position in the INIT
plan, not by its bytes; every other kind by byte 3 (R80, R85). -/
def reportCandidate (c : Params) (profileStep : Bool) (bytes : List Byte) : Except DecodeError Instr :=
  let byte (n : Nat) : Byte := bytes.getD n 0
  if profileStep then
    let sel := (byte (c.profileBase + c.profileSelPos.val)).toNat
    if sel < 3 then .ok (.setProfile (BitVec.ofNat 2 (sel + 1))) else .error .badOperand
  else if byte 3 = c.cmdStart then .ok .startReport
  else if byte 3 = c.cmdStop then .ok .endReport
  else if byte 3 = c.cmdSubcommand then .ok (.subcommand (byte 4) (byte 8))
  else if byte 3 = c.cmdKeycolors then
    .ok (.keycolors (((byte 5).toNat + 256 * (byte 6).toNat) / 3) ((byte 4).toNat / 3))
  else .error (.unknownCommand (byte 3))

/-- The instruction a 64-byte report stands for. Strict: every byte that is no colour payload must be the one the
kind's layout gives (R68, R77), so no malformed report falls through to a neighbour. -/
def decodeReport (c : Params) (profileStep : Bool) (bytes : List Byte) : Except DecodeError Instr :=
  if bytes.length ≠ Config.pktSize then .error (.wrongLength bytes.length)
  else if bytes.getD 0 0 ≠ c.reportId then .error (.badReportId (bytes.getD 0 0))
  else if bytes.getD 1 0 ≠ le16Lo (layoutChecksum bytes) ∨ bytes.getD 2 0 ≠ le16Hi (layoutChecksum bytes) then
    .error .badChecksum
  else
    match reportCandidate c profileStep bytes with
    | .error e => .error e
    | .ok i =>
      if i.wellFormed = false then .error .badOperand
      else if layoutFits c bytes i = false then .error .strayByte
      else .ok i

/-! ### Both domains -/

/-- Decoding, total on any bits. `profileStep` says that the report stands at step 1 of the INIT plan (R85). -/
def decode (c : Params) (profileStep : Bool) : Encoded → Except DecodeError Instr
  | .request w => .ok (decodeRequest w)
  | .report bytes => decodeReport c profileStep bytes

/-- The bits of an instruction. A KEYCOLORS report takes its payload from `tgt` (R72). -/
def encode (c : Params) (tgt : Frame) (i : Instr) : Encoded :=
  match i.request? with
  | some (op, h) => .request (encodeRequest op h)
  | none => .report (encodeReport c tgt i)

/-- The bytes of a number, the least significant first. -/
def bytesOfNat (n w : Nat) : List Byte :=
  (List.range n).map fun j => BitVec.ofNat 8 (w >>> (8 * j))

/-- The instruction of an opcode-table word: 32 bits are a request, 512 bits a report, byte 0 in bits 7 to 0. A table
row does not say where in a plan a report stands, so a report that names none of the four command codes is tried as
the profile packet too (log entry 12). -/
def decodeTableWord (nbits w : Nat) : Option Instr :=
  if nbits = 32 then (decode Config.params false (.request (BitVec.ofNat 32 w))).toOption
  else if nbits = 512 then
    match decode Config.params false (.report (bytesOfNat 64 w)) with
    | .ok i => some i
    | .error _ => (decode Config.params true (.report (bytesOfNat 64 w))).toOption
  else none

end Sys2Proof
end

