-- ==== Sys2Proof/Machine/State.lean ====
section
/-! DEFINITION. Everything the spec gives the machine, as plain data: the block's state (R20), the ports and spaces
around it (R40), and what its three agents (host, transport, reset) have still to do and have seen. -/

namespace Sys2Proof.Machine

/-- The four session states of the 2-bit register `SESSION` (R26). -/
inductive Session where
  | disconnected
  | selected
  | opened
  | initialized
deriving DecidableEq, Repr

/-- The 64-byte packet buffer `pkt` (R25). -/
abbrev Packet := Vector Byte Config.pktSize

/-- The host frame port `FRM`: 126 lanes of 24 bits (R64). -/
abbrev Lanes := Vector Lane Config.keyCap

/-- The response codes (R67). -/
inductive Code where
  /-- 00. -/
  | ok
  /-- 01, a `Send` returned fail (R181). -/
  | transportError
  /-- 10, rejected before any I/O (R182). -/
  | validationError
  /-- 11, the session state does not allow the op (R183). -/
  | sessionStateError
deriving DecidableEq, Repr

/-- A body packet descriptor of a plan: `KC(first, len)`, `SUB(s, a)` or `PROFILE(p)` (R15, R27, R106). -/
inductive BodyReport where
  | kc (first len : Nat)
  | sub (s a : Byte)
  | profile (p : BitVec 2)
deriving DecidableEq, Repr

/-- One bracket group: the body descriptors between a START and its END (R27, R105). -/
abbrev BracketGroup := List BodyReport

/-- A plan: the list of bracket groups an accepted operation will send (R27). -/
abbrev Plan := List BracketGroup

/-- A position within a bracket group (R27). -/
inductive Pos where
  /-- `START`. -/
  | start
  /-- `BODY(j)`. -/
  | body (j : Nat)
  /-- `END`. -/
  | final
  /-- `END_AFTER_FAIL`. -/
  | finalAfterFail
deriving DecidableEq, Repr

/-- The sequencer position `seq`, the block's program counter: `IDLE` or `EXEC(plan, g, pos)` (R27). -/
inductive Sequencer where
  | idle
  | running (plan : Plan) (g : Nat) (pos : Pos)
deriving DecidableEq, Repr

/-- The outcome of one `Send` (R13, R90). -/
inductive SendOutcome where
  | ok
  | fail
deriving DecidableEq, Repr

/-- What the transport agent draws for one `Send`: whether a device is attached, and whether the channel takes the
payload: the two causes of `fail` that the source names (R91). A free input of the `Send` step. -/
structure TransportDraw where
  attached : Bool
  accepts : Bool
deriving DecidableEq, Repr

/-- One report as the transport receives it: the id and the 63 data bytes (R13, R45). -/
structure Report where
  id : Byte
  data : Vector Byte Config.txLen
deriving DecidableEq, Repr

/-- One entry of the report trace (R33, R83). `none`: a reset abandoned the operation before the transport answered. -/
structure SentReport where
  report : Report
  outcome : Option SendOutcome
deriving DecidableEq, Repr

/-- A request the host has still to present: its header word and what it drives on the frame port (R61, R64). -/
structure HostRequest where
  req : ReqWord
  frm : Lanes
deriving DecidableEq, Repr

/-- The machine. -/
structure State where
  /-- `SESSION` (R26). -/
  session : Session
  /-- `shadow[0..125]`, the record of the colours last confirmed sent (R22). -/
  shadow : Frame
  /-- `tgt[0..125]`, the target frame of the operation in progress (R23). -/
  tgt : Frame
  /-- Request latch `OP` (R24). -/
  op : BitVec 3
  /-- Request latch `PROF` (R24). -/
  prof : BitVec 2
  /-- Request latch `UF` (R24). -/
  uf : BitVec 1
  /-- Request latch `ACC` (R24). -/
  acc : BitVec 16
  /-- `pkt[0..63]` (R25). -/
  pkt : Packet
  /-- `seq` with its plan (R27). -/
  seq : Sequencer
  /-- `BUSY` (R28). -/
  busy : Bool
  /-- `SENT` (R30). -/
  sent : BitVec 8
  /-- The pending response `RSP`; `none` is "no response pending" (R29). -/
  rsp : Option RspWord
  /-- The space `TX` (R40): the report handed to the transport and not yet answered, if there is one. -/
  tx : Option Report
  /-- The space `FRM` (R40): what the host drives on the frame port now. -/
  frm : Lanes
  /-- The request port: the header word presented and not yet accepted, if there is one (R53). -/
  req : Option ReqWord
  /-- The model's own: the requests the host presents later, in order (log entry 2). -/
  host : List HostRequest
  /-- The model's own: the transport's draws for the `Send`s to come, in order (log entry 3). -/
  draws : List TransportDraw
  /-- The model's own: the reset event is asserted (R206, log entry 4). -/
  resetLine : Bool
  /-- The model's own: the report trace so far, oldest first (R33). -/
  trace : List SentReport
  /-- The model's own: the responses delivered to the host so far, oldest first (R29, R33). -/
  responses : List RspWord
deriving DecidableEq, Repr

/-- What can stop the machine. The block has no exception but its three response codes (R180), which are next states;
these two guard states that no run from reset reaches, and the statements prove that they are never raised there. -/
inductive Fault where
  /-- Raised by `step` where `seq` stands outside its own plan, which R27 excludes. Safe: the spec gives such a state
  no behaviour. -/
  | seqOutsidePlan
  /-- Raised by the KEYCOLORS and SET_PROFILE meanings on an operand outside the range of R72 or R73, where an index
  outside its space would be formed, which R40 and R49 exclude. Safe: the spec gives such a report no layout. -/
  | operandOutOfRange
deriving DecidableEq, Repr

/-- What the model refuses to run: nothing, once every arm has its meaning. -/
inductive Refusal where
  /-- Raised by an arm of `exec` whose instruction has no meaning yet, with the row's mnemonic. Safe. -/
  | notModelled (mnemonic : String)
deriving DecidableEq, Repr

/-- The outcome of one step of this machine. -/
abbrev Result := Host.Outcome State Fault Refusal

/-- What the next step is (R5); `Machine/Fetch.lean` chooses it. -/
inductive Action where
  /-- The reset event (R206). -/
  | reset
  /-- The delivery of the pending response (R110). -/
  | deliver (r : RspWord)
  /-- An instruction: the acceptance of the request at the port, or the transport transaction `seq` stands at. -/
  | run (i : Instr)
  /-- Nothing is presented: the host's move (log entry 2). -/
  | hostMove
  /-- `BUSY` with nothing in progress: a request waits (R53). No run reaches it. -/
  | blocked
  /-- `seq` stands outside its plan. No run reaches it. -/
  | outsidePlan
deriving DecidableEq, Repr

/-- The machine right after reset (R205). DESIGN CHOICE, unsafe (log entry 5): `tgt`, the latches and `pkt`, which R205
leaves unspecified, are zero; (log entry 6) the frame port is driven to zero, nothing is presented and no draw is
listed. -/
def State.reset : State where
  session := .disconnected
  shadow := Vector.replicate _ Config.shadowResetColor
  tgt := Vector.replicate _ ⟨0, 0, 0⟩
  op := 0
  prof := 0
  uf := 0
  acc := 0
  pkt := Vector.replicate _ 0
  seq := .idle
  busy := false
  sent := 0
  rsp := none
  tx := none
  frm := Vector.replicate _ 0
  req := none
  host := []
  draws := []
  resetLine := false
  trace := []
  responses := []

end Sys2Proof.Machine
end

