-- ==== Sys2Proof/Machine/Operands.lean ====
section
/-! DEFINITION. The operands of a request: the op codes, the frame port's lanes, and the target frame an op loads. -/

namespace Sys2Proof.Machine

/-! ### Op codes (R62) -/

def opInit : BitVec 3 := 0b000
def opWriteFrame : BitVec 3 := 0b001
def opWriteFullFrame : BitVec 3 := 0b010
def opReserved011 : BitVec 3 := 0b011
def opSelect : BitVec 3 := 0b100
def opOpen : BitVec 3 := 0b101
def opClose : BitVec 3 := 0b110
def opReserved111 : BitVec 3 := 0b111

/-- The 2-bit encoding of `SESSION` (R26). -/
def Session.code : Session → BitVec 2
  | .disconnected => 0
  | .selected => 1
  | .opened => 2
  | .initialized => 3

/-- The colour of one lane: r in [23:16], g in [15:8], b in [7:0] (R64). -/
def laneColor (v : Lane) : Color where
  r := v.extractLsb' 16 8
  g := v.extractLsb' 8 8
  b := v.extractLsb' 0 8

/-- The frame the port carries: `tgt[k] <- FRM[k]` (R23, R64). -/
def sampleFrame (frm : Lanes) : Frame := frm.map laneColor

/-- `DEFAULT_INIT_COLOR` in every entry (R23, R124). -/
def defaultInitFrame : Frame := Vector.replicate _ Config.defaultInitColor

/-- The target an accepted INIT loads: the frame port with `UF = 1`, the all-white default with `UF = 0` (R23, R124). -/
def initTarget (uf : BitVec 1) (frm : Lanes) : Frame :=
  if uf = 1 then sampleFrame frm else defaultInitFrame

end Sys2Proof.Machine
end

