-- ==== Sys2Proof/Machine/Flags.lean ====
section
/-! DEFINITION. The block's only condition flag is the response code (R31): its encoding, the response word, the check
that computes it for a request, and the `SENT` count. -/

namespace Sys2Proof.Machine

/-- The 2-bit numbers of the response codes (R67). -/
def Code.bits : Code → BitVec 2
  | .ok => 0b00
  | .transportError => 0b01
  | .validationError => 0b10
  | .sessionStateError => 0b11

/-- `RSP <- { SENT, 000000, code }` (R66, R110). -/
def rspWord (sent : BitVec 8) (code : Code) : RspWord :=
  sent ++ (0 : BitVec 6) ++ code.bits

/-- `SENT` after a `Send`: one more when it returned ok (R30, R101). -/
def countSent (o : SendOutcome) (sent : BitVec 8) : BitVec 8 :=
  match o with
  | .ok => sent + 1
  | .fail => sent

/-- The outcome of a `Send`: `fail` when no device is attached (with `NO_DEVICE_IS_ERROR`, R9, R92) or the channel
rejects the payload, `ok` otherwise (R91). -/
def TransportDraw.outcome (d : TransportDraw) : SendOutcome :=
  if d.attached then (if d.accepts then .ok else .fail)
  else if Config.noDeviceIsError then .fail else .ok

/-- The session test of R183, as R185 orders it. -/
def sessionAllows (op : BitVec 3) (ses : Session) : Bool :=
  if op = opSelect then ses = .disconnected
  else if op = opOpen then ses = .selected
  else if op = opClose then true
  else if op = opInit then ses = .opened ∨ ses = .initialized
  else ses = .initialized

/-- The field tests of R182, as R185 orders them: `PROF = 0`, then `LEN ≠ 126` where it is used, then `ACC > 0x8000`. -/
def fieldsValid (op : BitVec 3) (h : Header) : Bool :=
  if op = opInit then decide (h.prof ≠ 0) && (decide (h.uf = 0) || decide (h.len = 126))
  else if op = opWriteFrame then decide (h.len = 126) && decide (h.acc.toNat ≤ Config.accDen)
  else if op = opWriteFullFrame then decide (h.len = 126)
  else true

/-- `Check(REQ)`: reserved op, then reserved bits, then the session, then the fields (R185). -/
def check (op : BitVec 3) (h : Header) (ses : Session) : Code :=
  if op = opReserved011 ∨ op = opReserved111 then .validationError
  else if h.rsv76 ≠ 0 ∨ h.rsv15 ≠ 0 then .validationError
  else if sessionAllows op ses = false then .sessionStateError
  else if fieldsValid op h = false then .validationError
  else .ok

end Sys2Proof.Machine
end

