-- ==== Sys2Proof/Machine/Plans.lean ====
section
/-! DEFINITION. What an operation sends: chunks of a full frame (R140), the diff engine's change test and runs (R155 to
R160), and the plans built from them (R124, R144, R163). -/

namespace Sys2Proof.Machine

/-! ### Full frame (R140) -/

/-- `Chunks(N)`: KEYCOLORS descriptors for keys 0 to N−1, 18 keys each, the rest in the last one (R140). -/
def chunks (n : Nat) : BracketGroup :=
  (List.range ((n + (Config.keysPerPkt - 1)) / Config.keysPerPkt)).map fun c =>
    .kc (c * Config.keysPerPkt) (min Config.keysPerPkt (n - c * Config.keysPerPkt))

/-- The plan of `FullFrameWrite`: one bracket of all chunks (R144). -/
def fullFramePlan : Plan := [chunks Config.keyCap]

/-- The plan of INIT: five brackets in fixed order (R124 to R130). -/
def initPlan (c : Params) (p : BitVec 2) : Plan :=
  [ [.profile p],
    [.sub c.subMode c.argModeCustom],
    [.sub c.subPoll c.argPoll],
    [.sub c.subDelay c.argDelay],
    chunks Config.keyCap ]

/-! ### Change test (R155 to R158) -/

/-- `delta(k)`: the signed sum of the channel differences (R155). Opposite changes cancel; that is kept (R158). -/
def delta (new old : Color) : Int :=
  ((new.r.toNat : Int) - old.r.toNat) + ((new.g.toNat : Int) - old.g.toNat) + ((new.b.toNat : Int) - old.b.toNat)

/-- The dirty predicate in its integer form, `abs(delta) × 32768 > (32768 − ACC) × 765` (R157). -/
def isDirty (acc : BitVec 16) (new old : Color) : Bool :=
  decide (((delta new old).natAbs : Int) * Config.accDen > ((Config.accDen : Int) - acc.toNat) * (255 * 3))

/-- The threshold `T = floor((32768 − ACC) × 765 / 32768)` of the second integer form: a key is dirty exactly when
`abs(delta) > T` (R157). -/
def threshold (acc : BitVec 16) : Nat := (Config.accDen - acc.toNat) * (255 * 3) / Config.accDen

/-- `dirty[0 .. 125]` (R156, R167). -/
def dirtyKeys (acc : BitVec 16) (tgt shadow : Frame) : List Bool :=
  (List.range Config.keyCap).map fun k => isDirty acc (keyRead tgt k) (keyRead shadow k)

/-! ### Run grouping (R159) -/

/-- A RunDiff `{offset, length}` (R15). -/
structure Run where
  offset : Nat
  length : Nat
deriving DecidableEq, Repr

/-- The run of first key `s` and last dirty key `e`, `{s, e − s + 1}` (R159). -/
def runOf (s e : Nat) : Run := ⟨s, e - s + 1⟩

/-- Does key `i` close the open run of first key `s` and last dirty key `e`: it would exceed the capacity, or it is
clean and lies more than `GAP_LIMIT` keys behind `e` (R159)? -/
def closesRun (gap : Option Nat) (dirty : Bool) (i s e : Nat) : Bool :=
  decide (Config.keysPerPkt < i - s + 1) ||
    match gap with
    | none => false
    | some g => !dirty && decide (g < i - e)

/-- The scan of `Runs` from key `i` on; `opened` is the open run's first key and last dirty key (R159). -/
def scanRuns (gap : Option Nat) (i : Nat) (opened : Option (Nat × Nat)) : List Bool → List Run
  | [] =>
    match opened with
    | none => []
    | some (s, e) => [runOf s e]
  | dirty :: rest =>
    match opened with
    | none => scanRuns gap (i + 1) (if dirty then some (i, i) else none) rest
    | some (s, e) =>
      if closesRun gap dirty i s e then
        runOf s e :: scanRuns gap (i + 1) (if dirty then some (i, i) else none) rest
      else
        scanRuns gap (i + 1) (some (s, if dirty then i else e)) rest

/-- `Runs(dirty)` (R159). -/
def runs (gap : Option Nat) (dirty : List Bool) : List Run := scanRuns gap 0 none dirty

/-- The RunDiffs of a `WRITE_FRAME` (R159, R167). -/
def frameRuns (acc : BitVec 16) (tgt shadow : Frame) : List Run :=
  runs Config.gapLimit (dirtyKeys acc tgt shadow)

/-- The KEYCOLORS descriptor of a RunDiff (R163). -/
def Run.descriptor (r : Run) : BodyReport := .kc r.offset r.length

/-- The plan of a `WRITE_FRAME`: nothing for no run (R162), the full frame for more than `RUN_THRESHOLD` runs (R161),
else one bracket with a packet for each run, in the order of the scan (R163, R165). -/
def writeFramePlan (rs : List Run) : Plan :=
  if rs = [] then []
  else if Config.runThreshold < rs.length then fullFramePlan
  else [rs.map Run.descriptor]

end Sys2Proof.Machine
end

