-- ==== Sys2Proof/Machine/Ops.lean ====
section
/-! DEFINITION. The named operations: the spaces (R12, R40), the packet codec (R95 to R101), one transport transaction
(R13, R101), the plan runner (R106), the request lifecycle with its error entry and return (R110, R186, R188), reset
(R206) and the host's move. -/

namespace Sys2Proof.Machine

/-! ### The spaces PKT, SHADOW and TGT (R12, R40) -/

/-- `MemWrite` of one colour (R12, R43). An index outside the space is never formed (R49); it would write nothing. -/
def keyWrite (f : Frame) (k : Nat) (c : Color) : Frame := f.setIfInBounds k c

/-- `MemWrite(SHADOW, k, 1, MemRead(TGT, k, 1))` for `k = first … first+len−1` (R106). -/
def copyKeys (first len : Nat) (tgt shadow : Frame) : Frame :=
  (List.range' first len).foldl (fun f k => keyWrite f k (keyRead tgt k)) shadow

/-- One byte of the packet buffer (R12). -/
def pktRead (p : Packet) (i : Nat) : Byte := p.toList.getD i 0

/-- One byte store into the packet buffer (R43). -/
def pktWrite (p : Packet) (i : Nat) (v : Byte) : Packet := p.setIfInBounds i v

/-- The two byte stores of a 16-bit little-endian field (R42, R43). -/
def pktWrite16 (p : Packet) (i v : Nat) : Packet :=
  pktWrite (pktWrite p i (le16Lo v)) (i + 1) (le16Hi v)

/-- The three byte stores of a colour, in the order r, g, b (R41, R43). -/
def pktWriteColor (p : Packet) (i : Nat) (c : Color) : Packet :=
  pktWrite (pktWrite (pktWrite p i c.r) (i + 1) c.g) (i + 2) c.b

/-! ### Packet codec (R95 to R98) -/

/-- A report kind with its arguments (R83, R95). -/
inductive ReportKind where
  | start
  | stop
  | body (d : BodyReport)
deriving DecidableEq, Repr

/-- The buffer that every packet starts from: 64 bytes of 0 (R96). -/
def zeroPacket : Packet := Vector.replicate _ 0

/-- `BuildPacket(kind, args)` (R95): zero fill, then the kind's byte stores. Bytes 0 to 2 are left to `DeviceWrite`. -/
def buildPacket (c : Params) (tgt : Frame) (k : ReportKind) : Packet :=
  match k with
  | .start => pktWrite zeroPacket 3 c.cmdStart
  | .stop => pktWrite zeroPacket 3 c.cmdStop
  | .body (.sub s a) => pktWrite (pktWrite (pktWrite zeroPacket 3 c.cmdSubcommand) 4 s) 8 a
  | .body (.kc first len) =>
    (List.range len).foldl (fun p i => pktWriteColor p (Config.payloadOff + 3 * i) (keyRead tgt (first + i)))
      (pktWrite16 (pktWrite (pktWrite zeroPacket 3 c.cmdKeycolors) 4 (BitVec.ofNat 8 (3 * len))) 5 (3 * first))
  | .body (.profile n) =>
    pktWrite
      ((List.range Config.profileTmplLen).foldl
        (fun p i => pktWrite p (c.profileBase + i) (c.profileTemplate.toList.getD i 0)) zeroPacket)
      (c.profileBase + c.profileSelPos.val) (BitVec.ofNat 8 (n.toNat - 1))

/-- `Cks(b)`: the bytes 3 to 63 as unsigned values, summed mod 65536 (R97). -/
def checksum (p : Packet) : Nat := ((p.toList.drop 3).map BitVec.toNat).sum % Config.cksumMod

/-- `DeviceWrite` up to its `Send`: byte 0 becomes `REPORT_ID`, then the checksum is computed and placed in bytes 1
and 2, last of all (R98, R99, R101). -/
def finishPacket (c : Params) (p : Packet) : Packet :=
  let q := pktWrite p 0 c.reportId
  pktWrite16 q 1 (checksum q)

/-- What `Send` receives: `REPORT_ID` out of band and the buffer minus its leading byte (R45, R101). -/
def reportOf (c : Params) (p : Packet) : Report where
  id := c.reportId
  data := Vector.ofFn fun j => pktRead p (j.val + 1)

/-- The report of a kind, complete (R95, R101). -/
def packetOf (c : Params) (tgt : Frame) (k : ReportKind) : Packet := finishPacket c (buildPacket c tgt k)

/-! ### Updates of the state -/

/-- Writes `seq` (R27). -/
def State.setSeq (s : State) (q : Sequencer) : State := { s with seq := q }

/-- Writes `SESSION` (R26). -/
def State.setSession (s : State) (ses : Session) : State := { s with session := ses }

/-- Loads `tgt` (R23). -/
def State.setTgt (s : State) (f : Frame) : State := { s with tgt := f }

/-- Acceptance: `BUSY <- 1`, `SENT <- 0`, the latches are loaded, and the request leaves the port (R24, R110). -/
def State.latch (s : State) (op : BitVec 3) (h : Header) : State :=
  { s with busy := true, sent := 0, op := op, prof := h.prof, uf := h.uf, acc := h.acc, req := none }

/-- `OnConfirm(KC(first, len))`: the report's keys go from `tgt` to `shadow`, all at once (R46, R106). -/
def State.confirmKeys (s : State) (first len : Nat) : State :=
  { s with shadow := copyKeys first len s.tgt s.shadow }

/-- `BuildPacket`, then `DeviceWrite` up to handing the report to the transport (R95, R101). The report is then in
flight and `pkt` stays as it is until the answer (R58). -/
def State.submit (s : State) (k : ReportKind) : State :=
  { s with
    pkt := packetOf Config.params s.tgt k
    tx := some (reportOf Config.params (packetOf Config.params s.tgt k)) }

/-- The transport answers `o`: the transaction enters the trace, and `SENT` counts an ok (R101). -/
def State.answer (s : State) (o : SendOutcome) (later : List TransportDraw) : State :=
  { s with
    tx := none
    draws := later
    trace := s.trace ++ [⟨reportOf Config.params s.pkt, some o⟩]
    sent := countSent o s.sent }

/-! ### End of an operation, error entry and return (R110, R186, R188) -/

/-- How every operation ends, by success or by an error: `seq <- IDLE` and `RSP <- {SENT, 000000, code}`; nothing else
is saved (R110, R186). `BUSY` clears when the response is delivered. -/
def State.endOperation (s : State) (code : Code) : State :=
  { s with seq := .idle, rsp := some (rspWord s.sent code) }

/-- The end of `Execute(OP)` with the code of its plan: INIT becomes Initialized on OK (R124, R131), then the operation
ends. -/
def State.finishExecute (s : State) (code : Code) : State :=
  if s.op = opInit ∧ code = .ok then (s.setSession .initialized).endOperation code else s.endOperation code

/-- The delivery of the pending response: it goes to the host once and `BUSY <- 0`; the block is idle and accepts the
next request. There is no other return from an error (R29, R110, R188). -/
def State.deliver (s : State) (r : RspWord) : State :=
  { s with responses := s.responses ++ [r], rsp := none, busy := false }

/-! ### Plan runner (R106) -/

/-- The kind of the report at a position of a plan; `none` outside the plan (R27, R106). -/
def dueKind (plan : Plan) (g : Nat) (pos : Pos) : Option ReportKind :=
  match plan[g]? with
  | none => none
  | some grp =>
    match pos with
    | .start => some .start
    | .body j => grp[j]?.map .body
    | .final => some .stop
    | .finalAfterFail => some .stop

/-- The position after position `j − 1` of a group's body: `BODY(j)`, or `END` behind the last one (R106). -/
def bodyOrFinal (plan : Plan) (g j : Nat) : Pos :=
  if j < (plan.getD g []).length then .body j else .final

/-- `RunPlan` begins: an empty plan sends nothing and returns OK (R106). -/
def State.startPlan (s : State) (plan : Plan) : State :=
  if plan = [] then s.finishExecute .ok else s.setSeq (.running plan 0 .start)

/-- What `RunPlan` does with the outcome of the `Send` it made (R106): after a failed START nothing more is sent; after
a failed body report one END is attempted, whose outcome changes nothing (R189); after the last END it returns OK. -/
def State.advance (s : State) (o : SendOutcome) : State :=
  match s.seq with
  | .idle => s
  | .running plan g .start =>
    match o with
    | .ok => s.setSeq (.running plan g (bodyOrFinal plan g 0))
    | .fail => s.finishExecute .transportError
  | .running plan g (.body j) =>
    match o with
    | .ok => s.setSeq (.running plan g (bodyOrFinal plan g (j + 1)))
    | .fail => s.setSeq (.running plan g .finalAfterFail)
  | .running plan g .final =>
    match o with
    | .ok => if g + 1 < plan.length then s.setSeq (.running plan (g + 1) .start) else s.finishExecute .ok
    | .fail => s.finishExecute .transportError
  | .running _ _ .finalAfterFail => s.finishExecute .transportError

/-- `OnConfirm(d)`: only KEYCOLORS updates state (R106). -/
def State.onConfirm (s : State) (k : ReportKind) : State :=
  match k with
  | .body (.kc first len) => s.confirmKeys first len
  | .body (.sub _ _) => s
  | .body (.profile _) => s
  | .start => s
  | .stop => s

/-- One transport transaction (R5, R13): the report goes out, its outcome comes back and `RunPlan` goes on. While the
transport has no answer the report stays in flight and the block waits, without bound (R94, R213). -/
def State.transact (s : State) (k : ReportKind) : State :=
  match s.draws with
  | [] => s.submit k
  | d :: later =>
    match d.outcome with
    | .ok => (((s.submit k).answer .ok later).onConfirm k).advance .ok
    | .fail => ((s.submit k).answer .fail later).advance .fail

/-! ### Request lifecycle (R110) -/

/-- Is a request accepted now: `BUSY = 0` and `seq = IDLE` (R53, R110)? -/
def State.ready (s : State) : Bool := !s.busy && decide (s.seq = .idle)

/-- The lifecycle of every request: it waits while the block is not ready (R53); else the header is latched and
checked, and `execute` runs, or the operation ends with the code of the check and no I/O (R110, R184). -/
def accept (op : BitVec 3) (h : Header) (execute : State → State) (s : State) : State :=
  if s.ready = false then s
  else
    match check op h s.session with
    | .ok => execute (s.latch op h)
    | .transportError => (s.latch op h).endOperation .transportError
    | .validationError => (s.latch op h).endOperation .validationError
    | .sessionStateError => (s.latch op h).endOperation .sessionStateError

/-! ### Reset and the host -/

/-- The trace when a reset abandons a report in flight: it has been submitted and has no outcome (R206). -/
def abandonedTrace (s : State) : List SentReport :=
  match s.tx with
  | none => s.trace
  | some r => s.trace ++ [⟨r, none⟩]

/-- The reset event: all state takes the values of R205, and what an operation in progress had still to do is abandoned
with no further `Send` and no response (R206). What lies outside the block stays: the host's ports and requests, the
transport's draws, and what both have already received. -/
def State.resetEvent (s : State) : State :=
  { State.reset with
    frm := s.frm
    req := s.req
    host := s.host
    draws := s.draws
    trace := abandonedTrace s
    responses := s.responses }

/-- The host's move while nothing is presented: it drives its next request on the ports, or the block waits on
(R197, log entry 2). -/
def State.hostMove (s : State) : State :=
  match s.host with
  | [] => s
  | r :: later => { s with req := some r.req, frm := r.frm, host := later }

end Sys2Proof.Machine
end

