-- ==== Sys2Proof/Machine/FrameWrite.lean ====
section
/-! DEFINITION. The meanings of the frame updates WRITE_FULL_FRAME (R143) and WRITE_FRAME (R167). -/

namespace Sys2Proof.Machine

/-- WRITE_FULL_FRAME (R143): the frame port is latched into `tgt` and `FullFrameWrite` starts, whatever `shadow` holds. -/
def execWriteFullFrame (h : Header) (s : State) : Result :=
  .next (accept opWriteFullFrame h (fun s => (s.setTgt (sampleFrame s.frm)).startPlan fullFramePlan) s)

/-- WRITE_FRAME (R167): the frame port is latched into `tgt`, the runs and the cost decision are computed from `tgt` and
`shadow` as they stand now (R166), and their plan starts. -/
def execWriteFrame (h : Header) (s : State) : Result :=
  .next (accept opWriteFrame h
    (fun s =>
      let t := s.setTgt (sampleFrame s.frm)
      t.startPlan (writeFramePlan (frameRuns t.acc t.tgt t.shadow))) s)

end Sys2Proof.Machine
end

