-- ==== Sys2Proof/Machine/Reports.lean ====
section
/-! DEFINITION. The meanings of the five report emitters (R103, R104, R107, R108, R125): each builds its packet, hands
it to the transport, and lets `RunPlan` go on with the outcome. -/

namespace Sys2Proof.Machine

/-- `EMIT_START` (R103). -/
def execStartReport (s : State) : Result := .next (s.transact .start)

/-- `EMIT_END` (R104). -/
def execEndReport (s : State) : Result := .next (s.transact .stop)

/-- `EMIT_SUBCOMMAND(s, a)` (R107). -/
def execSubcommand (sub arg : Byte) (s : State) : Result := .next (s.transact (.body (.sub sub arg)))

/-- `EMIT_KEYCOLORS(first, len)` (R108), for `1 ≤ len ≤ 18` and `first + len ≤ 126`, "every caller guarantees this";
outside that range R72 gives no packet. On ok the keys go to `shadow` (R106). -/
def execKeycolors (first len : Nat) (s : State) : Result :=
  if keyRangeOk first len then .next (s.transact (.body (.kc first len))) else .fault .operandOutOfRange

/-- `EMIT_PROFILE(p)` (R125), for `p` in 1 to 3; R73 gives no packet for 0. -/
def execSetProfile (p : BitVec 2) (s : State) : Result :=
  if p = 0 then .fault .operandOutOfRange else .next (s.transact (.body (.profile p)))

end Sys2Proof.Machine
end

