-- ==== Sys2Proof/Machine/Session.lean ====
section
/-! DEFINITION. The meanings of the session requests SELECT, OPEN, CLOSE, of INIT, and of the two reserved op codes
(R79, R121 to R124). Each is the acceptance of one request, a step of its own (R5). -/

namespace Sys2Proof.Machine

/-- SELECT (R121): `SESSION <- Selected; return OK`. -/
def execSelect (h : Header) (s : State) : Result :=
  .next (accept opSelect h (fun s => (s.setSession .selected).finishExecute .ok) s)

/-- OPEN (R122): `SESSION <- Opened; return OK`. It does not look for a device. -/
def execOpenChannel (h : Header) (s : State) : Result :=
  .next (accept opOpen h (fun s => (s.setSession .opened).finishExecute .ok) s)

/-- CLOSE (R123): `SESSION <- Disconnected; return OK`, from every session state; `shadow` stays. -/
def execCloseChannel (h : Header) (s : State) : Result :=
  .next (accept opClose h (fun s => (s.setSession .disconnected).finishExecute .ok) s)

/-- INIT (R124): `tgt` is loaded, `SESSION <- Opened` before the first `Send` (R131), and the five-bracket plan
starts. Its end, in `finishExecute`, makes the session Initialized. -/
def execInit (h : Header) (s : State) : Result :=
  .next (accept opInit h
    (fun s => ((s.setTgt (initTarget s.uf s.frm)).setSession .opened).startPlan (initPlan Config.params s.prof)) s)

/-- Row reserved_011 (R79): accepted and answered by ValidationError, with no I/O; `Check` never lets it execute. -/
def execReserved011 (h : Header) (s : State) : Result :=
  .next (accept opReserved011 h (fun s => s.endOperation .validationError) s)

/-- Row reserved_111 (R79): accepted and answered by ValidationError, with no I/O; `Check` never lets it execute. -/
def execReserved111 (h : Header) (s : State) : Result :=
  .next (accept opReserved111 h (fun s => s.endOperation .validationError) s)

end Sys2Proof.Machine
end

