-- ==== Sys2Proof/Machine/Dispatch.lean ====
section
/-! DEFINITION. The dispatch: one arm per constructor of Instr. -/

namespace Sys2Proof.Machine

def exec (i : Instr) (s : State) : Host.Outcome State Fault Refusal :=
  match i with
  | .init h => Sys2Proof.Machine.execInit h s
  | .writeFrame h => Sys2Proof.Machine.execWriteFrame h s
  | .writeFullFrame h => Sys2Proof.Machine.execWriteFullFrame h s
  | .select h => Sys2Proof.Machine.execSelect h s
  | .openChannel h => Sys2Proof.Machine.execOpenChannel h s
  | .closeChannel h => Sys2Proof.Machine.execCloseChannel h s
  | .reserved011 h => Sys2Proof.Machine.execReserved011 h s
  | .reserved111 h => Sys2Proof.Machine.execReserved111 h s
  | .startReport => Sys2Proof.Machine.execStartReport s
  | .endReport => Sys2Proof.Machine.execEndReport s
  | .subcommand sub arg => Sys2Proof.Machine.execSubcommand sub arg s
  | .keycolors first len => Sys2Proof.Machine.execKeycolors first len s
  | .setProfile p => Sys2Proof.Machine.execSetProfile p s

end Sys2Proof.Machine
end

