-- ==== Sys2Proof/Machine/Fetch.lean ====
section
/-! DEFINITION. What the next step is (R5): the block fetches no program (R56); its instructions come from the request
port while it is idle and from the plan at `seq` while it runs. -/

namespace Sys2Proof.Machine

/-- The instruction that emits a report of a kind (R106's `Emit`). -/
def ReportKind.toInstr : ReportKind → Instr
  | .start => .startReport
  | .stop => .endReport
  | .body (.kc first len) => .keycolors first len
  | .body (.sub s a) => .subcommand s a
  | .body (.profile p) => .setProfile p

/-- The next step of the block: a reset event first of all (R206), then the pending response (R110), then the report
`seq` stands at (R106), then the request at the port (R53, R110), and the host's move when there is none. -/
def nextAction (s : State) : Action :=
  if s.resetLine then .reset
  else
    match s.rsp with
    | some r => .deliver r
    | none =>
      match s.seq with
      | .running plan g pos =>
        match dueKind plan g pos with
        | some k => .run k.toInstr
        | none => .outsidePlan
      | .idle =>
        if s.busy then .blocked
        else
          match s.req with
          | some w => .run (decodeRequest w)
          | none => .hostMove

/-! ### Placing an instruction where the next step fetches it -/

/-- The block idle with header word `w` at the request port. -/
def placeRequest (s : State) (w : ReqWord) : State :=
  { s with resetLine := false, rsp := none, seq := .idle, busy := false, req := some w }

/-- The block in an operation whose sequencer stands at a given report. -/
def placeReport (s : State) (plan : Plan) (pos : Pos) : State :=
  { s with resetLine := false, rsp := none, seq := .running plan 0 pos, busy := true }

/-- The colours of a KEYCOLORS report's payload, loaded into `tgt`, where the report takes them from (R72). -/
def loadPayload (first len : Nat) (bytes : List Byte) (tgt : Frame) : Frame :=
  (List.range len).foldl
    (fun f i =>
      let at8 := Config.payloadOff + 3 * i
      keyWrite f (first + i) ⟨bytes.getD at8 0, bytes.getD (at8 + 1) 0, bytes.getD (at8 + 2) 0⟩) tgt

/-- The table word `w` placed so that the very next step runs it: a request at the request port, a report as the one
`seq` stands at in a plan of one bracket. -/
def placeWord (s : State) (nbits w : Nat) : State :=
  match decodeTableWord nbits w with
  | some .startReport => placeReport s [[]] .start
  | some .endReport => placeReport s [[]] .final
  | some (.subcommand sub arg) => placeReport s [[.sub sub arg]] (.body 0)
  | some (.keycolors first len) =>
    placeReport (s.setTgt (loadPayload first len (bytesOfNat 64 w) s.tgt)) [[.kc first len]] (.body 0)
  | some (.setProfile p) => placeReport s [[.profile p]] (.body 0)
  | some (.init _) => placeRequest s (BitVec.ofNat 32 w)
  | some (.writeFrame _) => placeRequest s (BitVec.ofNat 32 w)
  | some (.writeFullFrame _) => placeRequest s (BitVec.ofNat 32 w)
  | some (.select _) => placeRequest s (BitVec.ofNat 32 w)
  | some (.openChannel _) => placeRequest s (BitVec.ofNat 32 w)
  | some (.closeChannel _) => placeRequest s (BitVec.ofNat 32 w)
  | some (.reserved011 _) => placeRequest s (BitVec.ofNat 32 w)
  | some (.reserved111 _) => placeRequest s (BitVec.ofNat 32 w)
  | none => s

end Sys2Proof.Machine
end

