-- ==== Sys2Proof/Machine/Step.lean ====
section
/-! DEFINITION. One step of the machine, and the placing of an instruction for the next step. -/

namespace Sys2Proof.Machine

/-- One step (R5): a request's acceptance or a transport transaction (both `exec` of an instruction), the delivery of a
response, or the reset event; where the block waits, the host's move. -/
def step (s : State) : Host.Outcome State Fault Refusal :=
  match nextAction s with
  | .reset => .next s.resetEvent
  | .deliver r => .next (s.deliver r)
  | .run i => exec i s
  | .hostMove => .next s.hostMove
  | .blocked => .next s
  | .outsidePlan => .fault .seqOutsidePlan

/-- `s` with the opcode-table word `w` stored where `step` takes its next instruction from (log entry 11). -/
def State.withFetchWord (s : State) (nbits w : Nat) : State := placeWord s nbits w

end Sys2Proof.Machine
end

