-- ==== Sys2Proof/Machine/Assembly.lean ====
section
/-! DEFINITION. The request assembly syntax with its defaults (R81), and the source's API calls as requests (R82). -/

namespace Sys2Proof.Machine

/-- One line of a request program (R81). `frame` says that the line has `frame=`; `len` and `acc` are given or take
their defaults. -/
inductive AsmLine where
  | init (p : BitVec 2) (frame : Bool) (len : Option (BitVec 7))
  | writeFrame (acc : Option (BitVec 16)) (len : Option (BitVec 7))
  | writeFullFrame (len : Option (BitVec 7))
  | select
  | openChannel
  | closeChannel
deriving DecidableEq, Repr

/-- `len` defaults to 126 on a line that has `frame=`, and is 0 on a line without one (R81). -/
def defaultLen (frame : Bool) (len : Option (BitVec 7)) : BitVec 7 :=
  if frame then len.getD 126 else 0

/-- The op code and header a line stands for; fields its mnemonic does not take are 0 (R81). -/
def AsmLine.fields (l : AsmLine) : BitVec 3 × Header :=
  match l with
  | .init p frame len => (opInit, ⟨p, if frame then 1 else 0, 0, defaultLen frame len, 0, 0⟩)
  | .writeFrame acc len => (opWriteFrame, ⟨0, 0, 0, defaultLen true len, 0, acc.getD 0x8000⟩)
  | .writeFullFrame len => (opWriteFullFrame, ⟨0, 0, 0, defaultLen true len, 0, 0⟩)
  | .select => (opSelect, ⟨0, 0, 0, 0, 0, 0⟩)
  | .openChannel => (opOpen, ⟨0, 0, 0, 0, 0, 0⟩)
  | .closeChannel => (opClose, ⟨0, 0, 0, 0, 0, 0⟩)

/-- `REQ = acc<<16 | len<<8 | uf<<5 | p<<3 | op` (R81). -/
def AsmLine.word (l : AsmLine) : ReqWord := encodeRequest l.fields.1 l.fields.2

/-- `initialize(session)` without a frame (R82). -/
def apiInitialize (p : BitVec 2) : AsmLine := .init p false none

/-- `writeFrame(colors, accuracy)`, the accuracy 1.0 where it is not given (R82). -/
def apiWriteFrame (acc : Option (BitVec 16)) : AsmLine := .writeFrame acc none

/-- `writeFullFrame(colors)` (R17). -/
def apiWriteFullFrame : AsmLine := .writeFullFrame none

end Sys2Proof.Machine
end

