-- ==== Sys2Proof/Machine/RunPlan.lean ====
section
/-! DEFINITION. `RunPlan` as R106 writes it: one procedure over the whole plan. The machine runs the same plan one
transaction a step (Machine/Ops.lean, `advance`); this text is what the statements compare it with, and `step` never
calls it. -/

namespace Sys2Proof.Machine

/-- What the procedure reads and writes: the transport's draws, `shadow`, `SENT` and the trace. -/
structure PlanRun where
  draws : List TransportDraw
  shadow : Frame
  sent : BitVec 8
  trace : List SentReport
deriving DecidableEq, Repr

/-- One emitter: `BuildPacket; return DeviceWrite()` (R101, R106). `none`: the transport never answers (R94). -/
def PlanRun.send (c : Params) (tgt : Frame) (k : ReportKind) (a : PlanRun) : Option (SendOutcome × PlanRun) :=
  match a.draws with
  | [] => none
  | d :: later =>
    some (d.outcome,
      { a with
        draws := later
        sent := countSent d.outcome a.sent
        trace := a.trace ++ [⟨reportOf c (packetOf c tgt k), some d.outcome⟩] })

/-- `OnConfirm(d)` (R106). -/
def PlanRun.confirm (tgt : Frame) (d : BodyReport) (a : PlanRun) : PlanRun :=
  match d with
  | .kc first len => { a with shadow := copyKeys first len tgt a.shadow }
  | .sub _ _ => a
  | .profile _ => a

/-- The loop over one group's body; the answer says whether every report was confirmed (R106). -/
def PlanRun.runBody (c : Params) (tgt : Frame) : BracketGroup → PlanRun → Option (Bool × PlanRun)
  | [], a => some (true, a)
  | d :: rest, a =>
    match a.send c tgt (.body d) with
    | none => none
    | some (.fail, b) => some (false, b)
    | some (.ok, b) => PlanRun.runBody c tgt rest (b.confirm tgt d)

/-- `RunPlan(plan) -> CODE` (R106). -/
def PlanRun.runPlan (c : Params) (tgt : Frame) : Plan → PlanRun → Option (Code × PlanRun)
  | [], a => some (.ok, a)
  | grp :: rest, a =>
    match a.send c tgt .start with
    | none => none
    | some (.fail, b) => some (.transportError, b)
    | some (.ok, b) =>
      match PlanRun.runBody c tgt grp b with
      | none => none
      | some (false, d) =>
        match d.send c tgt .stop with
        | none => none
        | some (_, e) => some (.transportError, e)
      | some (true, d) =>
        match d.send c tgt .stop with
        | none => none
        | some (.fail, e) => some (.transportError, e)
        | some (.ok, e) => PlanRun.runPlan c tgt rest e

end Sys2Proof.Machine
end

