-- ==== Sys2Proof/Safety.lean ====
section
/-! DEFINITION. The terms the statements use: what a good state is, how far an operation has come, and runs. -/

namespace Sys2Proof.Machine

/-- A body descriptor within the ranges of R72 and R73. -/
def BodyReport.valid (d : BodyReport) : Bool := (ReportKind.body d).toInstr.wellFormed

/-- Every descriptor of a plan is within its range. -/
def planValid (plan : Plan) : Bool := plan.all fun grp => grp.all BodyReport.valid

/-- `seq` is `IDLE`, or it stands inside its plan, whose descriptors are all in range (R27). -/
def Sequencer.valid (q : Sequencer) : Bool :=
  match q with
  | .idle => true
  | .running plan g pos => (dueKind plan g pos).isSome && planValid plan

/-- The `Send` calls of one bracket that runs without a failure (R105). -/
def groupSends (grp : BracketGroup) : Nat := grp.length + 2

/-- The `Send` calls of a plan that runs without a failure (R106). -/
def planSends (plan : Plan) : Nat := (plan.map groupSends).sum

/-- The most `Send` calls an operation can still make from a position on (R216). -/
def Sequencer.sendsLeft (q : Sequencer) : Nat :=
  match q with
  | .idle => 0
  | .running plan g .start => groupSends (plan.getD g []) + planSends (plan.drop (g + 1))
  | .running plan g (.body j) => ((plan.getD g []).length - j) + 1 + planSends (plan.drop (g + 1))
  | .running plan g .final => 1 + planSends (plan.drop (g + 1))
  | .running _ _ .finalAfterFail => 1

/-- The order of the positions of a group of `len` body reports (R27). -/
def Pos.rank (len : Nat) (pos : Pos) : Nat :=
  match pos with
  | .start => 0
  | .body j => j + 1
  | .final => len + 1
  | .finalAfterFail => len + 2

/-- The report `seq` stands at, if it stands at one. -/
def State.dueReport (s : State) : Option ReportKind :=
  match s.seq with
  | .idle => none
  | .running plan g pos => dueKind plan g pos

/-- The invariant of the machine: what R26 to R30, R58, R131 and R133 say of every state. -/
structure State.Inv (s : State) : Prop where
  /-- `seq` stands inside a plan of descriptors in range (R27). -/
  seqValid : s.seq.valid = true
  /-- `BUSY` is 1 exactly from acceptance to delivery (R28). -/
  busyExact : s.busy = true ↔ (s.seq ≠ .idle ∨ s.rsp ≠ none)
  /-- A response is pending only when the operation has ended (R29). -/
  rspIdle : s.rsp ≠ none → s.seq = .idle
  /-- Bits [7:2] of a response are 0 and its `SENT` field is at most 21 (R29, R133). -/
  rspShape : ∀ r, s.rsp = some r → r.extractLsb' 2 6 = 0 ∧ (r.extractLsb' 8 8).toNat ≤ 21
  /-- `SENT` and the `Send` calls still to come are at most 21 together, so `SENT` never wraps (R30, R133). -/
  sentBound : s.sent.toNat + s.seq.sendsLeft ≤ 21
  /-- A report is in flight only while the operation stands at it, and it is the one in `pkt` (R51, R58). -/
  inFlight : ∀ r, s.tx = some r →
    ∃ k, s.dueReport = some k ∧ s.pkt = packetOf Config.params s.tgt k ∧ r = reportOf Config.params s.pkt
  /-- INIT runs in session Opened, a frame update in session Initialized (R131, R183). -/
  opSession : s.seq ≠ .idle →
    (s.op = opInit ∧ s.session = .opened) ∨
      ((s.op = opWriteFrame ∨ s.op = opWriteFullFrame) ∧ s.session = .initialized)

/-- One data byte of a report as a number. -/
def Report.dataByte (r : Report) (j : Nat) : Nat := (r.data.toList.getD j 0).toNat

/-- The checksum property of R109: data bytes 0 and 1, read as little-endian, are the sum of the data bytes 2 to 62
mod 65536. -/
abbrev Report.Checksummed (r : Report) : Prop :=
  r.dataByte 0 + 256 * r.dataByte 1 = ((List.range 61).map fun j => r.dataByte (j + 2)).sum % 65536

/-- Every report handed to the transport so far has the checksum property and the id `REPORT_ID` (R45, R109). -/
def State.reportsGood (s : State) : Prop :=
  (∀ e ∈ s.trace, e.report.Checksummed ∧ e.report.id = Config.params.reportId) ∧
    ∀ r, s.tx = some r → r.Checksummed ∧ r.id = Config.params.reportId

/-- `k` steps of the machine. -/
def State.after (s : State) (k : Nat) : Result := Sys2Proof.core.run k s

/-- The first `n` draws of the transport are there and are all ok. -/
def State.okFor (s : State) (n : Nat) : Prop :=
  n ≤ s.draws.length ∧ ∀ d ∈ s.draws.take n, d.outcome = .ok

/-- The block is idle with the header word `w` presented and nothing else to do (R110). -/
structure State.Presents (s : State) (w : ReqWord) : Prop where
  noReset : s.resetLine = false
  noResponse : s.rsp = none
  idle : s.seq = .idle
  notBusy : s.busy = false
  request : s.req = some w

/-- A trace entry of a report of kind `k` with colours from `tgt` that the transport answered (R83). -/
def sentAs (tgt : Frame) (k : ReportKind) (o : SendOutcome) : SentReport :=
  ⟨reportOf Config.params (packetOf Config.params tgt k), some o⟩

end Sys2Proof.Machine
end

