-- ==== Sys2Proof/Certificates/Slice0/Obligations.lean ====
section
/-! DEFINITION. The statements about the machine, each a numbered rule of spec/ or what its rules say together. -/

open Sys2Proof Sys2Proof.Machine

/-! ### Encoding -/

/-- R61, R62, R81: request words written out from the header format decode to the requests they stand for, reserved bits
and ignored fields included. -/
def Obligations.RequestWordsDecodeAsListed : Prop :=
  decodeRequest 0x00000004 = .select ⟨0, 0, 0, 0, 0, 0⟩ ∧
  decodeRequest 0x00000005 = .openChannel ⟨0, 0, 0, 0, 0, 0⟩ ∧
  decodeRequest 0x00000006 = .closeChannel ⟨0, 0, 0, 0, 0, 0⟩ ∧
  decodeRequest 0x00000008 = .init ⟨1, 0, 0, 0, 0, 0⟩ ∧
  decodeRequest 0x00007E30 = .init ⟨2, 1, 0, 126, 0, 0⟩ ∧
  decodeRequest 0x80007E01 = .writeFrame ⟨0, 0, 0, 126, 0, 0x8000⟩ ∧
  decodeRequest 0x00007E02 = .writeFullFrame ⟨0, 0, 0, 126, 0, 0⟩ ∧
  decodeRequest 0x00000003 = .reserved011 ⟨0, 0, 0, 0, 0, 0⟩ ∧
  decodeRequest 0x00000007 = .reserved111 ⟨0, 0, 0, 0, 0, 0⟩ ∧
  decodeRequest 0x00000044 = .select ⟨0, 0, 1, 0, 0, 0⟩ ∧
  decodeRequest 0x80008001 = .writeFrame ⟨0, 0, 0, 0, 1, 0x8000⟩

/-- Decoding the encoding of a well-formed instruction gives it back, for every constructor, every operand value and
every choice of the open parameters with distinct command codes (R76). A profile packet is decoded as such (R85). -/
def Obligations.DecodeOfEncodeIsIdentity : Prop :=
  ∀ (c : Params) (tgt : Frame) (i : Instr), c.CodesDistinct → i.wellFormed = true →
    ((∀ p, i ≠ .setProfile p) → decode c false (encode c tgt i) = .ok i) ∧
    ((∃ p, i = .setProfile p) → decode c true (encode c tgt i) = .ok i)

/-- Every 32-bit word is the encoding of the request it decodes to: no bit of a header is dropped. -/
def Obligations.EncodeOfDecodeIsTheWord : Prop :=
  ∀ w : ReqWord, ∃ op h, (decodeRequest w).request? = some (op, h) ∧ encodeRequest op h = w

/-- The model's choice (log entry 13): the decoder is strict, which R68, R77 and R85 do not ask (R85 tells a report's kind
by byte 3 only). A report that it takes is, byte for byte, the encoding of the instruction it reads, for some frame to
take the payload from: nothing malformed is taken. -/
def Obligations.AcceptedReportIsAnEncoding : Prop :=
  ∀ (c : Params) (b : Bool) (bytes : List Byte) (i : Instr), decode c b (.report bytes) = .ok i →
    ∃ tgt : Frame, encode c tgt i = .report bytes

/-- The packet that BuildPacket and DeviceWrite leave in the buffer (R95, R101) is the report of the layout tables
(R68 to R73), for every report kind with operands in range, every frame and every choice of the open parameters. -/
def Obligations.PacketMatchesLayoutTables : Prop :=
  ∀ (c : Params) (tgt : Frame) (k : ReportKind), k.toInstr.wellFormed = true →
    (packetOf c tgt k).toList = encodeReport c tgt k.toInstr

/-- R69, R70, R71: the data of START and END is the command code, 0x00, the command code, and 60 bytes of 0; the data of
SUB(s, a) is the checksum `CMD_SUBCOMMAND + s + a` as LE16, the command code, `s`, three bytes of 0, `a`, and 55 bytes
of 0. -/
def Obligations.ControlAndSubcommandReportData : Prop :=
  ∀ (c : Params) (tgt : Frame) (s a : Byte),
    (reportOf c (packetOf c tgt .start)).data.toList = [c.cmdStart, 0, c.cmdStart] ++ List.replicate 60 0 ∧
    (reportOf c (packetOf c tgt .stop)).data.toList = [c.cmdStop, 0, c.cmdStop] ++ List.replicate 60 0 ∧
    (reportOf c (packetOf c tgt (.body (.sub s a)))).data.toList =
      [le16Lo (c.cmdSubcommand.toNat + s.toNat + a.toNat), le16Hi (c.cmdSubcommand.toNat + s.toNat + a.toNat),
        c.cmdSubcommand, s, 0, 0, 0, a] ++ List.replicate 55 0

/-- R45: `Send` receives `REPORT_ID` and `data[j] = pkt[j+1]` for `j = 0 … 62`, so the data of a finished packet begins
with checksum-low, checksum-high and the packet's command byte. -/
def Obligations.TransportDataMapping : Prop :=
  ∀ (c : Params) (p : Packet),
    (reportOf c p).id = c.reportId ∧
    (∀ j (hj : j < 63), (reportOf c p).data[j] = pktRead p (j + 1)) ∧
    (reportOf c (finishPacket c p)).data[0] = le16Lo (checksum (finishPacket c p)) ∧
    (reportOf c (finishPacket c p)).data[1] = le16Hi (checksum (finishPacket c p)) ∧
    (reportOf c (finishPacket c p)).data[2] = pktRead p 3

/-- R100: the 61 summed bytes are at most 15555 together, so the mask never changes the sum, and byte 2 is at most
0x3C. -/
def Obligations.ChecksumNeverWraps : Prop :=
  ∀ p : Packet,
    ((p.toList.drop 3).map BitVec.toNat).sum ≤ 15555 ∧
    checksum p = ((p.toList.drop 3).map BitVec.toNat).sum ∧ (le16Hi (checksum p)).toNat ≤ 0x3C

/-- R109: every step keeps it that every report handed to the transport carries its checksum and the report id. -/
def Obligations.EveryReportCarriesItsChecksum : Prop :=
  ∀ s t : State, s.reportsGood → step s = .next t → t.reportsGood

/-! ### Reset -/

/-- R205: what reset leaves, in every field whose value the rule gives; the block then waits for a request, none being
presented in `State.reset` (the model's choice, log entry 6). -/
def Obligations.ResetValues : Prop :=
  State.reset.session = .disconnected ∧
  (∀ k, k < 126 → keyRead State.reset.shadow k = ⟨0xFF, 0xFF, 0xFF⟩) ∧
  State.reset.seq = .idle ∧ State.reset.busy = false ∧ State.reset.sent = 0 ∧ State.reset.rsp = none ∧
  nextAction State.reset = .hostMove

/-- R206: a reset event, whatever is in progress, takes the block to the state after reset, sends nothing and delivers
nothing. That `tgt`, the latches and `pkt` are then at the values of `State.reset`, and that what lies outside the block
stays, are the model's choices (log entries 5 and 4); a report in flight stays without an outcome (log entry 7). -/
def Obligations.ResetEventAbandonsTheOperation : Prop :=
  ∀ s : State, s.resetLine = true →
    step s = .next { State.reset with
      frm := s.frm, req := s.req, host := s.host, draws := s.draws, responses := s.responses
      trace := s.trace ++ (match s.tx with | none => [] | some r => [⟨r, none⟩]) }

/-! ### Requests: what each does when it is accepted -/

/-- R121: SELECT from Disconnected answers OK with `SENT` = 0 and makes the session Selected; beside the latches, `BUSY`
and the request port nothing else changes. -/
def Obligations.SelectCompletes : Prop :=
  ∀ (h : Header) (s : State), s.busy = false → s.seq = .idle → s.session = .disconnected → h.ReservedClear →
    exec (.select h) s = .next { s with
      busy := true, sent := 0, op := 0b100, prof := h.prof, uf := h.uf, acc := h.acc, req := none
      session := .selected, rsp := some 0x0000 }

/-- R122: OPEN from Selected answers OK and makes the session Opened, whether or not a device is attached. -/
def Obligations.OpenCompletes : Prop :=
  ∀ (h : Header) (s : State), s.busy = false → s.seq = .idle → s.session = .selected → h.ReservedClear →
    exec (.openChannel h) s = .next { s with
      busy := true, sent := 0, op := 0b101, prof := h.prof, uf := h.uf, acc := h.acc, req := none
      session := .opened, rsp := some 0x0000 }

/-- R123: CLOSE from every session state answers OK and makes the session Disconnected; `shadow` is unchanged and no
report is sent. -/
def Obligations.CloseCompletes : Prop :=
  ∀ (h : Header) (s : State), s.busy = false → s.seq = .idle → h.ReservedClear →
    exec (.closeChannel h) s = .next { s with
      busy := true, sent := 0, op := 0b110, prof := h.prof, uf := h.uf, acc := h.acc, req := none
      session := .disconnected, rsp := some 0x0000 }

/-- R124, R131: an accepted INIT loads the caller's frame (`UF = 1`) or white (`UF = 0`) into `tgt`, drops the session to
Opened before the first `Send`, and stands at the first START of its five brackets in the order of R130. -/
def Obligations.InitStartsItsFiveBrackets : Prop :=
  ∀ (h : Header) (s : State), s.busy = false → s.seq = .idle → (s.session = .opened ∨ s.session = .initialized) →
    h.ReservedClear → h.prof ≠ 0 → (h.uf = 1 → h.len = 126) →
    exec (.init h) s = .next { s with
      busy := true, sent := 0, op := 0b000, prof := h.prof, uf := h.uf, acc := h.acc, req := none
      session := .opened
      tgt := if h.uf = 1 then s.frm.map laneColor else Vector.replicate 126 ⟨0xFF, 0xFF, 0xFF⟩
      seq := .running
        [ [.profile h.prof],
          [.sub Config.params.subMode Config.params.argModeCustom],
          [.sub Config.params.subPoll Config.params.argPoll],
          [.sub Config.params.subDelay Config.params.argDelay],
          [.kc 0 18, .kc 18 18, .kc 36 18, .kc 54 18, .kc 72 18, .kc 90 18, .kc 108 18] ] 0 .start }

/-- R143, R144: an accepted WRITE_FULL_FRAME loads the frame port into `tgt` and stands at the START of one bracket with
all seven chunks, whatever `shadow` holds. -/
def Obligations.WriteFullFrameStartsItsBracket : Prop :=
  ∀ (h : Header) (s : State), s.busy = false → s.seq = .idle → s.session = .initialized →
    h.ReservedClear → h.len = 126 →
    exec (.writeFullFrame h) s = .next { s with
      busy := true, sent := 0, op := 0b010, prof := h.prof, uf := h.uf, acc := h.acc, req := none
      tgt := s.frm.map laneColor
      seq := .running
        [[.kc 0 18, .kc 18 18, .kc 36 18, .kc 54 18, .kc 72 18, .kc 90 18, .kc 108 18]] 0 .start }

/-- R161 to R163, R167: an accepted WRITE_FRAME loads the frame port into `tgt`. With no run it answers OK and sends
nothing; with 1 to 6 runs it stands at the START of one bracket with a KEYCOLORS packet for each run in the order of the
scan; with more it stands at the START of the full frame's bracket. -/
def Obligations.WriteFrameDecidesByItsRuns : Prop :=
  ∀ (h : Header) (s : State) (rs : List Run), s.busy = false → s.seq = .idle → s.session = .initialized →
    h.ReservedClear → h.len = 126 → h.acc.toNat ≤ 0x8000 →
    rs = frameRuns h.acc (s.frm.map laneColor) s.shadow →
    (rs = [] →
      exec (.writeFrame h) s = .next { s with
        busy := true, sent := 0, op := 0b001, prof := h.prof, uf := h.uf, acc := h.acc, req := none
        tgt := s.frm.map laneColor, rsp := some 0x0000 }) ∧
    (1 ≤ rs.length ∧ rs.length ≤ 6 →
      exec (.writeFrame h) s = .next { s with
        busy := true, sent := 0, op := 0b001, prof := h.prof, uf := h.uf, acc := h.acc, req := none
        tgt := s.frm.map laneColor
        seq := .running [rs.map fun r => .kc r.offset r.length] 0 .start }) ∧
    (6 < rs.length →
      exec (.writeFrame h) s = .next { s with
        busy := true, sent := 0, op := 0b001, prof := h.prof, uf := h.uf, acc := h.acc, req := none
        tgt := s.frm.map laneColor
        seq := .running
          [[.kc 0 18, .kc 18 18, .kc 36 18, .kc 54 18, .kc 72 18, .kc 90 18, .kc 108 18]] 0 .start })

/-- R79: the two reserved op codes are accepted in every session state and answered by ValidationError with `SENT` = 0,
whatever the other bits are; beside the latches, `BUSY` and the request port nothing else changes. -/
def Obligations.ReservedOpCodesAnswerValidationError : Prop :=
  ∀ (h : Header) (s : State), s.busy = false → s.seq = .idle →
    exec (.reserved011 h) s = .next { s with
      busy := true, sent := 0, op := 0b011, prof := h.prof, uf := h.uf, acc := h.acc, req := none
      rsp := some 0x0002 } ∧
    exec (.reserved111 h) s = .next { s with
      busy := true, sent := 0, op := 0b111, prof := h.prof, uf := h.uf, acc := h.acc, req := none
      rsp := some 0x0002 }

/-! ### Requests: when they are rejected and when they wait -/

/-- R182, R183, R185: `Check` answers ValidationError exactly for a reserved op code, a set reserved bit, or a bad field of
an op that the session allows; SessionStateError exactly for a real op code with its reserved bits clear that the
session does not allow; and never TransportError. -/
def Obligations.CheckFollowsTheTables : Prop :=
  ∀ (op : BitVec 3) (h : Header) (ses : Session),
    let allowed : Prop :=
      (op = 0b100 ∧ ses = .disconnected) ∨ (op = 0b101 ∧ ses = .selected) ∨ op = 0b110 ∨
      (op = 0b000 ∧ (ses = .opened ∨ ses = .initialized)) ∨ ((op = 0b001 ∨ op = 0b010) ∧ ses = .initialized)
    let badField : Prop :=
      (op = 0b000 ∧ (h.prof = 0 ∨ (h.uf = 1 ∧ h.len ≠ 126))) ∨
      (op = 0b001 ∧ (h.len ≠ 126 ∨ 0x8000 < h.acc.toNat)) ∨ (op = 0b010 ∧ h.len ≠ 126)
    let reserved : Prop := op = 0b011 ∨ op = 0b111 ∨ h.rsv76 ≠ 0 ∨ h.rsv15 ≠ 0
    (check op h ses = .validationError ↔ reserved ∨ (allowed ∧ badField)) ∧
    (check op h ses = .sessionStateError ↔ ¬ reserved ∧ ¬ allowed) ∧
    check op h ses ≠ .transportError

/-- R184: when `Check` returns an error, no `Send` is made, `shadow`, `tgt` and `SESSION` are unchanged and `RSP.SENT` is
0, for every request. -/
def Obligations.RejectedRequestDoesNoIO : Prop :=
  ∀ (i : Instr) (op : BitVec 3) (h : Header) (s : State), i.request? = some (op, h) →
    s.busy = false → s.seq = .idle → check op h s.session ≠ .ok →
    exec i s = .next { s with
      busy := true, sent := 0, op := op, prof := h.prof, uf := h.uf, acc := h.acc, req := none
      rsp := some (rspWord 0 (check op h s.session)) }

/-- R53: a request presented while the block is busy is not accepted and is not an error: it changes nothing, and the
steps of the operation in flight leave it waiting at the port. -/
def Obligations.RequestWaitsWhileBusy : Prop :=
  (∀ (i : Instr) (op : BitVec 3) (h : Header) (s : State), i.request? = some (op, h) →
    (s.busy = true ∨ s.seq ≠ .idle) → exec i s = .next s) ∧
  (∀ s t : State, s.busy = true → step s = .next t → t.req = s.req ∧ t.host = s.host ∧ t.frm = s.frm)

/-- R82, R81: the source's API calls are the words `INIT p`, `WRITE_FRAME` with accuracy 0x8000 and `WRITE_FULL_FRAME`,
and each assembly line decodes to a request of its own op code. -/
def Obligations.AssembledLinesDecodeToTheirOp : Prop :=
  (∀ p, (apiInitialize p).word = (p.setWidth 32) <<< 3) ∧ (apiWriteFrame none).word = 0x80007E01 ∧
  apiWriteFullFrame.word = 0x00007E02 ∧
  ∀ l : AsmLine, (decodeRequest l.word).request? = some l.fields

/-! ### Reports: what each emitter does with its outcome -/

/-- R103, R106: a confirmed START counts in `SENT`, stands in the trace, and moves `seq` to the first body report, or to
END where the group has none. -/
def Obligations.StartConfirmedOpensTheBracket : Prop :=
  ∀ (s : State) (d : TransportDraw) (later : List TransportDraw) (plan : Plan) (g : Nat),
    s.draws = d :: later → d.outcome = .ok → s.seq = .running plan g .start →
    exec .startReport s = .next { s with
      pkt := packetOf Config.params s.tgt .start, tx := none, draws := later
      trace := s.trace ++ [sentAs s.tgt .start .ok], sent := s.sent + 1
      seq := .running plan g (if plan.getD g [] = [] then .final else .body 0) }

/-- R106: after a failed START the operation ends with TransportError, no END is sent, and `SENT`, `shadow` and the
session stay. -/
def Obligations.StartFailedSendsNoEnd : Prop :=
  ∀ (s : State) (d : TransportDraw) (later : List TransportDraw) (plan : Plan) (g : Nat),
    s.draws = d :: later → d.outcome = .fail → s.seq = .running plan g .start →
    exec .startReport s = .next { s with
      pkt := packetOf Config.params s.tgt .start, tx := none, draws := later
      trace := s.trace ++ [sentAs s.tgt .start .fail]
      seq := .idle, rsp := some (rspWord s.sent .transportError) }

/-- R107, R125, R106: a confirmed SUBCOMMAND or SET_PROFILE counts in `SENT` and moves `seq` to the next body report or to
END; it updates no frame. -/
def Obligations.SettingReportsConfirmed : Prop :=
  ∀ (s : State) (d : TransportDraw) (later : List TransportDraw) (plan : Plan) (g j : Nat),
    s.draws = d :: later → d.outcome = .ok → s.seq = .running plan g (.body j) →
    (∀ sub arg, exec (.subcommand sub arg) s = .next { s with
      pkt := packetOf Config.params s.tgt (.body (.sub sub arg)), tx := none, draws := later
      trace := s.trace ++ [sentAs s.tgt (.body (.sub sub arg)) .ok], sent := s.sent + 1
      seq := .running plan g (if j + 1 < (plan.getD g []).length then .body (j + 1) else .final) }) ∧
    (∀ p, p ≠ 0 → exec (.setProfile p) s = .next { s with
      pkt := packetOf Config.params s.tgt (.body (.profile p)), tx := none, draws := later
      trace := s.trace ++ [sentAs s.tgt (.body (.profile p)) .ok], sent := s.sent + 1
      seq := .running plan g (if j + 1 < (plan.getD g []).length then .body (j + 1) else .final) })

/-- R108, R164, R144: a confirmed KEYCOLORS copies `tgt` into `shadow` for exactly its keys, counts in `SENT` and moves
`seq` on; every other key of `shadow` and every other field stays. -/
def Obligations.KeycolorsConfirmedUpdatesExactlyItsKeys : Prop :=
  ∀ (s : State) (d : TransportDraw) (later : List TransportDraw) (plan : Plan) (g j first len : Nat),
    s.draws = d :: later → d.outcome = .ok → s.seq = .running plan g (.body j) →
    1 ≤ len → len ≤ 18 → first + len ≤ 126 →
    ∃ shadow : Frame,
      (∀ k, k < 126 → keyRead shadow k =
        if first ≤ k ∧ k < first + len then keyRead s.tgt k else keyRead s.shadow k) ∧
      exec (.keycolors first len) s = .next { s with
        pkt := packetOf Config.params s.tgt (.body (.kc first len)), tx := none, draws := later
        trace := s.trace ++ [sentAs s.tgt (.body (.kc first len)) .ok], sent := s.sent + 1
        shadow := shadow
        seq := .running plan g (if j + 1 < (plan.getD g []).length then .body (j + 1) else .final) }

/-- R106, R186: a failed body report of any kind has had no effect on `shadow` or `SENT`, and `seq` goes to the one END
attempt. -/
def Obligations.BodyFailedGoesToEndAttempt : Prop :=
  ∀ (s : State) (d : TransportDraw) (later : List TransportDraw) (plan : Plan) (g j : Nat) (b : BodyReport),
    s.draws = d :: later → d.outcome = .fail → s.seq = .running plan g (.body j) → b.valid = true →
    exec (ReportKind.body b).toInstr s = .next { s with
      pkt := packetOf Config.params s.tgt (.body b), tx := none, draws := later
      trace := s.trace ++ [sentAs s.tgt (.body b) .fail]
      seq := .running plan g .finalAfterFail }

/-- R104, R106, R124: a confirmed END starts the next bracket; behind the last one the operation ends with OK, and an INIT
makes the session Initialized. -/
def Obligations.EndConfirmedStartsNextBracketOrAnswersOk : Prop :=
  ∀ (s : State) (d : TransportDraw) (later : List TransportDraw) (plan : Plan) (g : Nat),
    s.draws = d :: later → d.outcome = .ok → s.seq = .running plan g .final →
    (g + 1 < plan.length →
      exec .endReport s = .next { s with
        pkt := packetOf Config.params s.tgt .stop, tx := none, draws := later
        trace := s.trace ++ [sentAs s.tgt .stop .ok], sent := s.sent + 1
        seq := .running plan (g + 1) .start }) ∧
    (plan.length ≤ g + 1 →
      exec .endReport s = .next { s with
        pkt := packetOf Config.params s.tgt .stop, tx := none, draws := later
        trace := s.trace ++ [sentAs s.tgt .stop .ok], sent := s.sent + 1
        session := if s.op = 0b000 then .initialized else s.session
        seq := .idle, rsp := some (rspWord (s.sent + 1) .ok) })

/-- R106, R132, R189: a failed END ends the operation with TransportError; so does the END attempted after a failed body
report, whatever its outcome, which changes only `SENT`. The session stays, Opened for an INIT. -/
def Obligations.FailingBracketAnswersTransportError : Prop :=
  ∀ (s : State) (d : TransportDraw) (later : List TransportDraw) (plan : Plan) (g : Nat), s.draws = d :: later →
    (d.outcome = .fail → s.seq = .running plan g .final →
      exec .endReport s = .next { s with
        pkt := packetOf Config.params s.tgt .stop, tx := none, draws := later
        trace := s.trace ++ [sentAs s.tgt .stop .fail]
        seq := .idle, rsp := some (rspWord s.sent .transportError) }) ∧
    (s.seq = .running plan g .finalAfterFail →
      exec .endReport s = .next { s with
        pkt := packetOf Config.params s.tgt .stop, tx := none, draws := later
        trace := s.trace ++ [sentAs s.tgt .stop d.outcome]
        sent := if d.outcome = .ok then s.sent + 1 else s.sent
        seq := .idle
        rsp := some (rspWord (if d.outcome = .ok then s.sent + 1 else s.sent) .transportError) })

/-- R91, R92: the outcome of a `Send` is fail exactly when no device is attached or the channel rejects the payload. -/
def Obligations.SendFailsExactlyForTheTwoCauses : Prop :=
  ∀ d : TransportDraw, d.outcome = .fail ↔ (d.attached = false ∨ d.accepts = false)

/-- The model's choice (log entry 10), on what R72 and R73 leave without a packet: KEYCOLORS and SET_PROFILE with an
operand out of range stop by name. -/
def Obligations.OutOfRangeReportsStop : Prop :=
  ∀ s : State,
    (∀ first len, (len = 0 ∨ 18 < len ∨ 126 < first + len) →
      exec (.keycolors first len) s = .fault .operandOutOfRange) ∧
    exec (.setProfile 0) s = .fault .operandOutOfRange

/-- R94, R213, in the model's form of a transaction that waits (log entry 3): while the transport has no answer, every
emitter leaves its finished packet in flight and changes nothing else. -/
def Obligations.ReportWaitsForItsAnswer : Prop :=
  ∀ (s : State) (k : ReportKind), s.draws = [] → k.toInstr.wellFormed = true →
    exec k.toInstr s = .next { s with
      pkt := packetOf Config.params s.tgt k, tx := some (reportOf Config.params (packetOf Config.params s.tgt k)) }

/-- R96: what the buffer held before has no effect on any report or on what it does. -/
def Obligations.StalePacketBytesHaveNoEffect : Prop :=
  ∀ (s : State) (p : Packet) (k : ReportKind), exec k.toInstr { s with pkt := p } = exec k.toInstr s

/-! ### The step -/

/-- A step runs the decoded instruction: the request at the port of an idle block, and the report `seq` stands at of a
running one; the step adds nothing around it. -/
def Obligations.StepRunsTheDecodedInstruction : Prop :=
  (∀ (s : State) (w : ReqWord), s.Presents w → step s = exec (decodeRequest w) s) ∧
  (∀ (s : State) (plan : Plan) (g : Nat) (pos : Pos) (k : ReportKind), s.resetLine = false → s.rsp = none →
    s.seq = .running plan g pos → dueKind plan g pos = some k → step s = exec k.toInstr s)

/-- R29, R110, R188: a pending response is delivered once, then `BUSY` is 0 and nothing else has changed. -/
def Obligations.ResponseIsDeliveredOnce : Prop :=
  ∀ (s : State) (r : RspWord), s.resetLine = false → s.rsp = some r →
    step s = .next { s with responses := s.responses ++ [r], rsp := none, busy := false }

/-! ### Invariants and whole-machine rules -/

/-- Both invariants hold at reset: that of the machine's state, and that of the reports sent, of which there are none. -/
def Obligations.ResetMeetsTheInvariants : Prop := State.reset.Inv ∧ State.reset.reportsGood

/-- Every step keeps the invariant: `seq` inside its plan, `BUSY` exact, response shape, `SENT` at most 21, the report in
flight the one `seq` stands at, and the session the operation needs. -/
def Obligations.StepKeepsTheInvariant : Prop :=
  ∀ s t : State, s.Inv → step s = .next t → t.Inv

/-- R180: no arithmetic, alignment or address fault exists: from a state that meets the invariant a step never stops. -/
def Obligations.InvariantStatesNeverStop : Prop :=
  ∀ s : State, s.Inv → ∃ t, step s = .next t

/-- R120: `SESSION` moves only along the listed edges. -/
def Obligations.SessionMovesOnlyAlongItsEdges : Prop :=
  ∀ s t : State, s.Inv → step s = .next t → t.session ≠ s.session →
    (s.resetLine = true ∧ t.session = .disconnected) ∨
    (∃ w h, s.Presents w ∧ decodeRequest w = .select h ∧ s.session = .disconnected ∧ t.session = .selected) ∨
    (∃ w h, s.Presents w ∧ decodeRequest w = .openChannel h ∧ s.session = .selected ∧ t.session = .opened) ∨
    (∃ w h, s.Presents w ∧ decodeRequest w = .init h ∧ s.session = .initialized ∧ t.session = .opened ∧
      check opInit h s.session = .ok) ∨
    (∃ w h, s.Presents w ∧ decodeRequest w = .closeChannel h ∧ t.session = .disconnected) ∨
    (s.op = opInit ∧ s.session = .opened ∧ t.session = .initialized ∧ s.seq ≠ .idle ∧ t.seq = .idle ∧
      t.rsp = some (rspWord t.sent .ok))

/-- R27, R166: while an operation runs and no reset comes, its plan does not change and `seq` never moves backwards: it
waits, goes on within its group, starts the next group, or becomes IDLE. -/
def Obligations.SequencerNeverMovesBackwards : Prop :=
  ∀ (s t : State) (plan : Plan) (g : Nat) (pos : Pos), s.seq = .running plan g pos → s.resetLine = false →
    s.rsp = none → step s = .next t →
    (t.seq = s.seq ∧ s.draws = []) ∨ t.seq = .idle ∨ t.seq = .running plan (g + 1) .start ∨
    ∃ pos', t.seq = .running plan g pos' ∧
      pos.rank (plan.getD g []).length < pos'.rank (plan.getD g []).length

/-- R23, R24, R55: the target frame and the request latches hold still while an operation runs, unless a reset comes. -/
def Obligations.TargetAndLatchesHoldDuringAnOperation : Prop :=
  ∀ s t : State, s.seq ≠ .idle → s.resetLine = false → step s = .next t →
    t.tgt = s.tgt ∧ t.op = s.op ∧ t.prof = s.prof ∧ t.uf = s.uf ∧ t.acc = s.acc

/-- R22, R52: a step changes `shadow` only by a reset, which makes it white, or by a KEYCOLORS report that the transport
has confirmed, which copies exactly its keys from `tgt`. -/
def Obligations.ShadowChangesOnlyByConfirmedReports : Prop :=
  ∀ s t : State, step s = .next t → t.shadow ≠ s.shadow →
    (s.resetLine = true ∧ ∀ k, k < 126 → keyRead t.shadow k = ⟨0xFF, 0xFF, 0xFF⟩) ∨
    ∃ plan g j first len d later, s.seq = .running plan g (.body j) ∧
      dueKind plan g (.body j) = some (.body (.kc first len)) ∧ s.draws = d :: later ∧ d.outcome = .ok ∧
      ∀ k, k < 126 →
        keyRead t.shadow k = if first ≤ k ∧ k < first + len then keyRead s.tgt k else keyRead s.shadow k

/-- R47, R51: a step makes at most one physical write, and takes exactly one answer of the transport for it; trace entries
are never changed. The model's choices, not in these rules: a write counts when it enters the trace, so that a report
which waits in `tx` for its answer counts as none yet (log entry 3), and a reset under R206 puts such a report into the
trace with no outcome (log entry 7). -/
def Obligations.AtMostOneReportPerStep : Prop :=
  ∀ s t : State, step s = .next t →
    (t.trace = s.trace ∧ t.draws = s.draws) ∨
    (∃ d r, t.trace = s.trace ++ [⟨r, some d.outcome⟩] ∧ s.draws = d :: t.draws) ∨
    (∃ r, t.trace = s.trace ++ [⟨r, none⟩] ∧ t.draws = s.draws ∧ s.resetLine = true)

/-- R53, R55: a busy block does not look at the host's ports: with other requests waiting and another frame on the frame
port, the step is the same in everything else. -/
def Obligations.BusyBlockIgnoresTheHostPorts : Prop :=
  ∀ (s : State) (frm : Lanes) (req : Option ReqWord) (host : List HostRequest), s.busy = true →
    step { s with frm := frm, req := req, host := host } =
      match step s with
      | .next t => .next { t with frm := frm, req := req, host := host }
      | .fault r => .fault r
      | .refused r => .refused r

/-- R213, in the model's form of a transport that never answers (log entry 3: no draw is listed, and a report that waits in
`tx` is not in the trace yet): the block stays BUSY with `seq` at the waiting position forever, whatever the host presents;
only a reset releases it. -/
def Obligations.UnansweredSendBlocksUntilReset : Prop :=
  ∀ s : State, s.Inv → s.seq ≠ .idle → s.resetLine = false → s.draws = [] →
    ∀ k, ∃ t, s.after k = .next t ∧ t.busy = true ∧ t.seq = s.seq ∧ t.trace = s.trace ∧ t.shadow = s.shadow ∧
      t.sent = s.sent ∧
      (∀ frm req host, ∃ u, step { t with frm := frm, req := req, host := host } = .next u ∧
        u.busy = true ∧ u.seq = s.seq) ∧
      ∃ u, step { t with resetLine := true } = .next u ∧ u.busy = false ∧ u.seq = .idle

/-- R216: an accepted operation ends, with its response delivered, if the transport answers its `Send`s: at most 21 of
them, and one step for the delivery. -/
def Obligations.EveryAnsweredOperationEnds : Prop :=
  ∀ s : State, s.Inv → s.resetLine = false → s.busy = true → s.seq.sendsLeft ≤ s.draws.length →
    ∃ k t r, k ≤ 22 ∧ s.after k = .next t ∧ t.busy = false ∧ t.seq = .idle ∧ t.responses = s.responses ++ [r]

/-- The machine's steps carry out `RunPlan` as R106 writes it: same code, same `shadow`, same `SENT`, same reports with the
same outcomes, same draws taken. -/
def Obligations.StepsCarryOutRunPlan : Prop :=
  ∀ (s : State) (plan : Plan) (code : Code) (a : PlanRun), plan ≠ [] → planValid plan = true →
    s.seq = .running plan 0 .start → s.rsp = none → s.resetLine = false →
    PlanRun.runPlan Config.params s.tgt plan ⟨s.draws, s.shadow, s.sent, s.trace⟩ = some (code, a) →
    ∃ k t, s.after k = .next t ∧ t.seq = .idle ∧ t.rsp = some (rspWord a.sent code) ∧ t.shadow = a.shadow ∧
      t.sent = a.sent ∧ t.draws = a.draws ∧ t.trace = a.trace ∧ t.tgt = s.tgt ∧
      t.session = if s.op = opInit ∧ code = .ok then .initialized else s.session

/-! ### Whole operations -/

/-- R133, R124: with every `Send` ok, INIT sends exactly its 21 reports in order, answers 0x1500, makes the session
Initialized, and leaves `shadow` equal to the pushed frame. -/
def Obligations.InitRunsItsTwentyOneReports : Prop :=
  ∀ (s : State) (w : ReqWord) (h : Header) (tgt : Frame), s.Presents w → decodeRequest w = .init h →
    h.ReservedClear → h.prof ≠ 0 → (h.uf = 1 → h.len = 126) →
    (s.session = .opened ∨ s.session = .initialized) → s.okFor 21 →
    tgt = (if h.uf = 1 then s.frm.map laneColor else Vector.replicate 126 ⟨0xFF, 0xFF, 0xFF⟩) →
    ∃ t, s.after 23 = .next t ∧ t.responses = s.responses ++ [0x1500] ∧ t.busy = false ∧ t.seq = .idle ∧
      t.session = .initialized ∧ t.shadow = tgt ∧ t.draws = s.draws.drop 21 ∧
      t.trace = s.trace ++
        ([ .start, .body (.profile h.prof), .stop,
           .start, .body (.sub Config.params.subMode Config.params.argModeCustom), .stop,
           .start, .body (.sub Config.params.subPoll Config.params.argPoll), .stop,
           .start, .body (.sub Config.params.subDelay Config.params.argDelay), .stop,
           .start, .body (.kc 0 18), .body (.kc 18 18), .body (.kc 36 18), .body (.kc 54 18), .body (.kc 72 18),
           .body (.kc 90 18), .body (.kc 108 18), .stop ].map fun k => sentAs tgt k .ok)

/-- R147, R143: with every `Send` ok, WRITE_FULL_FRAME sends exactly its 9 reports in order, answers 0x0900, and leaves
`shadow` equal to the frame; the session stays Initialized. -/
def Obligations.WriteFullFrameRunsItsNineReports : Prop :=
  ∀ (s : State) (w : ReqWord) (h : Header), s.Presents w → decodeRequest w = .writeFullFrame h →
    h.ReservedClear → h.len = 126 → s.session = .initialized → s.okFor 9 →
    ∃ t, s.after 11 = .next t ∧ t.responses = s.responses ++ [0x0900] ∧ t.busy = false ∧ t.seq = .idle ∧
      t.session = .initialized ∧ t.shadow = s.frm.map laneColor ∧ t.draws = s.draws.drop 9 ∧
      t.trace = s.trace ++
        ([ .start, .body (.kc 0 18), .body (.kc 18 18), .body (.kc 36 18), .body (.kc 54 18), .body (.kc 72 18),
           .body (.kc 90 18), .body (.kc 108 18), .stop ].map fun k => sentAs (s.frm.map laneColor) k .ok)

/-- R145: when chunk `c` of a WRITE_FULL_FRAME fails, chunks 0 to c−1 are in `shadow` and no later key is, exactly one END
is attempted, and the answer is TransportError with the count of ok `Send`s. -/
def Obligations.FullFrameFailureKeepsConfirmedChunks : Prop :=
  ∀ (s : State) (w : ReqWord) (h : Header) (c : Nat) (d e : TransportDraw), s.Presents w →
    decodeRequest w = .writeFullFrame h → h.ReservedClear → h.len = 126 → s.session = .initialized → c < 7 →
    s.okFor (c + 1) → s.draws[c + 1]? = some d → d.outcome = .fail → s.draws[c + 2]? = some e →
    ∃ t, s.after (c + 5) = .next t ∧
      t.responses = s.responses ++
        [rspWord (BitVec.ofNat 8 (if e.outcome = .ok then c + 2 else c + 1)) .transportError] ∧
      t.busy = false ∧ t.session = .initialized ∧ t.draws = s.draws.drop (c + 3) ∧
      t.trace = s.trace ++ sentAs (s.frm.map laneColor) .start .ok ::
        ((List.range c).map fun i => sentAs (s.frm.map laneColor) (.body (.kc (18 * i) 18)) .ok) ++
        [sentAs (s.frm.map laneColor) (.body (.kc (18 * c) 18)) .fail, sentAs (s.frm.map laneColor) .stop e.outcome] ∧
      ∀ k, k < 126 →
        keyRead t.shadow k = if k < 18 * c then laneColor s.frm[k]! else keyRead s.shadow k

/-- R172: after a WRITE_FRAME that returns OK, no key of the requested frame is dirty against the new `shadow` at the
request's accuracy. It returns OK when all `Send`s of its plan are ok. -/
def Obligations.WriteFrameLeavesNoKeyDirty : Prop :=
  ∀ (s : State) (w : ReqWord) (h : Header), s.Presents w → decodeRequest w = .writeFrame h →
    h.ReservedClear → h.len = 126 → h.acc.toNat ≤ 0x8000 → s.session = .initialized →
    s.okFor (planSends (writeFramePlan (frameRuns h.acc (s.frm.map laneColor) s.shadow))) →
    ∃ k t r, k ≤ 11 ∧ s.after k = .next t ∧ t.responses = s.responses ++ [r] ∧ t.busy = false ∧
      r.extractLsb' 0 2 = 0 ∧ t.session = .initialized ∧
      ∀ key, key < 126 → (delta (keyRead (s.frm.map laneColor) key) (keyRead t.shadow key)).natAbs ≤ threshold h.acc

/-- R170: after a WRITE_FRAME that returned OK, the same WRITE_FRAME presented again sends nothing, answers 0x0000 and
leaves `shadow` as it is. -/
def Obligations.RepeatedWriteFrameSendsNothing : Prop :=
  ∀ (s : State) (w : ReqWord) (h : Header), s.Presents w → decodeRequest w = .writeFrame h →
    h.ReservedClear → h.len = 126 → h.acc.toNat ≤ 0x8000 → s.session = .initialized →
    s.okFor (planSends (writeFramePlan (frameRuns h.acc (s.frm.map laneColor) s.shadow))) →
    ∃ k t u, s.after k = .next t ∧ t.busy = false ∧ t.responses.length = s.responses.length + 1 ∧
      { t with req := some w, frm := s.frm }.after 2 = .next u ∧ u.responses = t.responses ++ [0x0000] ∧
      u.trace = t.trace ∧ u.draws = t.draws ∧ u.shadow = t.shadow ∧ u.busy = false

/-! ### Chunks, change test and runs -/

/-- R140, R141: for every `N ≤ 126`, `Chunks(N)` has `ceil(3N / 54)` descriptors, each of 1 to 18 keys and at most 54
bytes, all but the last of exactly 18, and together they are the keys 0 to N−1 in order. -/
def Obligations.ChunksPartitionTheFrame : Prop :=
  ∀ n, n ≤ 126 →
    (chunks n).length = (3 * n + 53) / 54 ∧
    (∀ d ∈ chunks n, ∃ first len, d = .kc first len ∧ 1 ≤ len ∧ len ≤ 18 ∧ 3 * len ≤ 54 ∧ first + len ≤ n) ∧
    (∀ c, c + 1 < (chunks n).length → (chunks n)[c]? = some (.kc (18 * c) 18)) ∧
    (chunks n).flatMap (fun d => match d with
      | .kc first len => List.range' first len
      | .sub _ _ => []
      | .profile _ => []) = List.range n

/-- R156, R157: the integer test is the rational one, `abs(delta) > (1 − accuracy) × (255 × 3)` with accuracy
`ACC / 32768`, and it is `abs(delta) > T` with the floor threshold, for every legal accuracy. -/
def Obligations.DirtyIsTheRationalTest : Prop :=
  ∀ (acc : BitVec 16) (new old : Color), acc.toNat ≤ 0x8000 →
    (isDirty acc new old = true ↔
      (|delta new old| : ℚ) > (1 - (acc.toNat : ℚ) / 32768) * (255 * 3)) ∧
    (isDirty acc new old = true ↔ threshold acc < (delta new old).natAbs) ∧
    (delta new old).natAbs ≤ 765

/-- R158: a key whose channel sum does not change is clean at every accuracy, so opposite changes cancel. -/
def Obligations.CancellingChangesAreClean : Prop :=
  ∀ (acc : BitVec 16) (new old : Color), acc.toNat ≤ 0x8000 →
    new.r.toNat + new.g.toNat + new.b.toNat = old.r.toNat + old.g.toNat + old.b.toNat →
    isDirty acc new old = false

/-- R156, R167: at accuracy 0 no key is dirty, and a frame equal to `shadow` has no dirty key at any accuracy: neither has
a run. -/
def Obligations.NoRunsAtAccuracyZeroOrForTheSameFrame : Prop :=
  ∀ (acc : BitVec 16) (tgt shadow : Frame), acc.toNat ≤ 0x8000 →
    frameRuns 0 tgt shadow = [] ∧ frameRuns acc shadow shadow = []

/-- R160, items 1 and 2: each run has 1 to 18 keys, stays within the frame, and begins and ends at a dirty key. -/
def Obligations.RunsAreBoundedByDirtyKeys : Prop :=
  ∀ (dirty : List Bool), ∀ r ∈ runs none dirty,
    1 ≤ r.length ∧ r.length ≤ 18 ∧ r.offset + r.length ≤ dirty.length ∧
    dirty[r.offset]? = some true ∧ dirty[r.offset + r.length - 1]? = some true

/-- R160, items 3 and 5: runs stand in ascending order, each at least 18 keys after the one before, they contain every
dirty key, exactly once, and 126 keys give at most 7. -/
def Obligations.RunsCoverEachDirtyKeyOnce : Prop :=
  ∀ (dirty : List Bool),
    (runs none dirty).Pairwise (fun a b => a.offset + 18 ≤ b.offset) ∧
    (∀ k, dirty[k]? = some true →
      ∃! r, r ∈ runs none dirty ∧ r.offset ≤ k ∧ k < r.offset + r.length) ∧
    (dirty.length = 126 → (runs none dirty).length ≤ 7)

/-- R160, item 6: a contiguous dirty span becomes runs of 18 keys and then a remainder, covering it with no gap or
overlap. -/
def Obligations.ContiguousSpanSplitsAtCapacity : Prop :=
  ∀ a n b : Nat,
    runs none (List.replicate a false ++ List.replicate n true ++ List.replicate b false) =
      (List.range ((n + 17) / 18)).map fun c => ⟨a + 18 * c, min 18 (n - 18 * c)⟩

/-- R169: a successful WRITE_FRAME with r runs, its `Send`s all ok, sends nothing for r = 0, START, a KEYCOLORS report for
each run in the order of the scan and END for r from 1 to 6, and the nine reports of the full frame (R147) for r = 7. It
answers OK with the count of these reports, the session stays Initialized, and r is never more than 7. The plan that it
builds has as many `Send`s. -/
def Obligations.WriteFrameReportCounts : Prop :=
  (∀ (acc : BitVec 16) (tgt shadow : Frame),
    let r := (frameRuns acc tgt shadow).length
    let sends := planSends (writeFramePlan (frameRuns acc tgt shadow))
    r ≤ 7 ∧ (r = 0 → sends = 0) ∧ (1 ≤ r ∧ r ≤ 6 → sends = r + 2) ∧ (r = 7 → sends = 9)) ∧
  ∀ (s : State) (w : ReqWord) (h : Header) (tgt : Frame) (rs : List Run), s.Presents w →
    decodeRequest w = .writeFrame h → h.ReservedClear → h.len = 126 → h.acc.toNat ≤ 0x8000 →
    s.session = .initialized → tgt = s.frm.map laneColor → rs = frameRuns h.acc tgt s.shadow →
    (rs = [] →
      ∃ t, s.after 2 = .next t ∧ t.responses = s.responses ++ [0x0000] ∧ t.busy = false ∧ t.seq = .idle ∧
        t.session = .initialized ∧ t.draws = s.draws ∧ t.shadow = s.shadow ∧ t.trace = s.trace) ∧
    (1 ≤ rs.length ∧ rs.length ≤ 6 → s.okFor (rs.length + 2) →
      ∃ t, s.after (rs.length + 4) = .next t ∧
        t.responses = s.responses ++ [rspWord (BitVec.ofNat 8 (rs.length + 2)) .ok] ∧ t.busy = false ∧
        t.seq = .idle ∧ t.session = .initialized ∧ t.draws = s.draws.drop (rs.length + 2) ∧
        t.trace = s.trace ++
          ([sentAs tgt .start .ok] ++ (rs.map fun r => sentAs tgt (.body (.kc r.offset r.length)) .ok) ++
            [sentAs tgt .stop .ok])) ∧
    (rs.length = 7 → s.okFor 9 →
      ∃ t, s.after 11 = .next t ∧ t.responses = s.responses ++ [0x0900] ∧ t.busy = false ∧ t.seq = .idle ∧
        t.session = .initialized ∧ t.draws = s.draws.drop 9 ∧ t.shadow = tgt ∧
        t.trace = s.trace ++
          ([ .start, .body (.kc 0 18), .body (.kc 18 18), .body (.kc 36 18), .body (.kc 54 18), .body (.kc 72 18),
             .body (.kc 90 18), .body (.kc 108 18), .stop ].map fun k => sentAs tgt k .ok))
end

