-- ==== Sys2Proof/Laws/Config.lean ====
section
/-! SUPPORT. The fixed parameters as numerals, for omega and simp. -/

namespace Sys2Proof.Config

@[simp] theorem pktSize_eq : pktSize = 64 := rfl
@[simp] theorem payloadOff_eq : payloadOff = 8 := rfl
@[simp] theorem keyCap_eq : keyCap = 126 := rfl
@[simp] theorem keysPerPkt_eq : keysPerPkt = 18 := rfl
@[simp] theorem runThreshold_eq : runThreshold = 6 := rfl
@[simp] theorem profileTmplLen_eq : profileTmplLen = 59 := rfl
@[simp] theorem txLen_eq : txLen = 63 := rfl
@[simp] theorem accDen_eq : accDen = 32768 := rfl
@[simp] theorem cksumMod_eq : cksumMod = 65536 := rfl
@[simp] theorem gapLimit_eq : gapLimit = none := rfl
@[simp] theorem noDeviceIsError_eq : noDeviceIsError = true := rfl

/-- R7: the capacity formula agrees with the stated 18 keys, and the packet count with the stated 7. -/
theorem derived_parameters_agree : chunkBytes / 3 = keysPerPkt ∧ chunkBytes = 54 ∧ fullPkts = 7 := by decide

end Sys2Proof.Config
end

