-- ==== Sys2Proof/Laws/Spaces.lean ====
section
/-! SUPPORT. Reading and writing the spaces: a read after a write, and what a write leaves alone. -/

namespace Sys2Proof.Machine

/-! ### Frames -/

theorem keyRead_eq (f : Frame) (k : Nat) (h : k < 126) : keyRead f k = f[k] := by
  simp [keyRead, h]

/-- Two frames with the same colour in every key are equal. -/
theorem frame_ext (f g : Frame) (h : ∀ k, k < 126 → keyRead f k = keyRead g k) : f = g := by
  apply Vector.ext
  intro k hk
  simpa [keyRead_eq _ _ hk] using h k hk

theorem keyRead_keyWrite (f : Frame) (k j : Nat) (c : Color) :
    keyRead (keyWrite f k c) j = if k = j ∧ j < 126 then c else keyRead f j := by
  unfold keyRead keyWrite
  by_cases hj : j < Config.keyCap
  · by_cases hkj : k = j
    · subst hkj; simp [hj]
    · simp [hj, hkj]
  · simp [hj]

/-- The fold behind `copyKeys`, over any list of keys. -/
theorem keyRead_foldl_keyWrite (tgt : Frame) (ks : List Nat) (f : Frame) (j : Nat) :
    keyRead (ks.foldl (fun f k => keyWrite f k (keyRead tgt k)) f) j =
      if j ∈ ks ∧ j < 126 then keyRead tgt j else keyRead f j := by
  induction ks generalizing f with
  | nil => simp
  | cons k ks ih =>
    rw [List.foldl_cons, ih, keyRead_keyWrite]
    by_cases h1 : j ∈ ks
    · by_cases h3 : j < 126 <;> simp [h1, h3]
    · by_cases h2 : k = j
      · subst h2; by_cases h3 : k < 126 <;> simp [h1, h3]
      · simp [h1, h2, Ne.symm h2]

/-- What `copyKeys` can do: exactly the keys `first … first+len−1` come from `tgt` (R106). -/
theorem keyRead_copyKeys (first len : Nat) (tgt shadow : Frame) (j : Nat) :
    keyRead (copyKeys first len tgt shadow) j =
      if (first ≤ j ∧ j < first + len) ∧ j < 126 then keyRead tgt j else keyRead shadow j := by
  simp [copyKeys, keyRead_foldl_keyWrite, List.mem_range'_1]

@[simp] theorem keyRead_replicate (c : Color) (k : Nat) (h : k < 126) :
    keyRead (Vector.replicate Config.keyCap c) k = c := by
  simp [keyRead, h]

theorem keyRead_sampleFrame (frm : Lanes) (k : Nat) (h : k < 126) :
    keyRead (sampleFrame frm) k = laneColor frm[k] := by
  simp [sampleFrame, keyRead, h]

/-! ### The packet buffer -/

theorem pktRead_pktWrite (p : Packet) (i n : Nat) (v : Byte) :
    pktRead (pktWrite p i v) n = if i = n ∧ n < 64 then v else pktRead p n := by
  unfold pktRead pktWrite
  by_cases hn : n < 64
  · by_cases hi : i = n
    · subst hi; simp [hn]
    · simp [hi, List.getElem?_set_ne]
  · simp [hn, List.getD_eq_getElem?_getD]

@[simp] theorem pktRead_zeroPacket (n : Nat) : pktRead zeroPacket n = 0 := by
  simp only [pktRead, zeroPacket, Vector.toList_replicate, List.getD_eq_getElem?_getD, List.getElem?_replicate]
  split <;> rfl

theorem pktRead_pktWrite16 (p : Packet) (i v n : Nat) :
    pktRead (pktWrite16 p i v) n =
      if i + 1 = n ∧ n < 64 then le16Hi v else if i = n ∧ n < 64 then le16Lo v else pktRead p n := by
  simp [pktWrite16, pktRead_pktWrite]

theorem pktRead_pktWriteColor (p : Packet) (i n : Nat) (c : Color) :
    pktRead (pktWriteColor p i c) n =
      if i + 2 = n ∧ n < 64 then c.b else if i + 1 = n ∧ n < 64 then c.g else if i = n ∧ n < 64 then c.r
      else pktRead p n := by
  simp [pktWriteColor, pktRead_pktWrite]

/-- Two packets with the same byte everywhere are equal. -/
theorem packet_ext (p q : Packet) (h : ∀ n, n < 64 → pktRead p n = pktRead q n) : p = q := by
  apply Vector.ext
  intro n hn
  have := h n hn
  simpa [pktRead, hn, List.getD_eq_getElem?_getD] using this

/-- The checksum reads the bytes 3 to 63 (R97). -/
theorem checksum_congr (p q : Packet) (h : ∀ n, 3 ≤ n → n < 64 → pktRead p n = pktRead q n) :
    checksum p = checksum q := by
  have : p.toList.drop 3 = q.toList.drop 3 := by
    apply List.ext_getElem
    · simp
    · intro i h1 h2
      have hi : i + 3 < 64 := by simp at h1; omega
      have := h (i + 3) (by omega) hi
      simpa [pktRead, List.getD_eq_getElem?_getD, hi, Nat.add_comm 3 i] using this
  rw [checksum, checksum, this]

end Sys2Proof.Machine
end

