-- ==== Sys2Proof/Laws/State.lean ====
section
/-! SUPPORT. One lemma per field per update of the state, each true by rfl, and what the composed operations of
Machine/Ops.lean leave alone. No later proof unfolds a record update. -/

namespace Sys2Proof.Machine

/-! ### setSeq -/

@[simp] theorem State.setSeq_session (s : State) (q : Sequencer) : (s.setSeq q).session = s.session := rfl
@[simp] theorem State.setSeq_shadow (s : State) (q : Sequencer) : (s.setSeq q).shadow = s.shadow := rfl
@[simp] theorem State.setSeq_tgt (s : State) (q : Sequencer) : (s.setSeq q).tgt = s.tgt := rfl
@[simp] theorem State.setSeq_op (s : State) (q : Sequencer) : (s.setSeq q).op = s.op := rfl
@[simp] theorem State.setSeq_prof (s : State) (q : Sequencer) : (s.setSeq q).prof = s.prof := rfl
@[simp] theorem State.setSeq_uf (s : State) (q : Sequencer) : (s.setSeq q).uf = s.uf := rfl
@[simp] theorem State.setSeq_acc (s : State) (q : Sequencer) : (s.setSeq q).acc = s.acc := rfl
@[simp] theorem State.setSeq_pkt (s : State) (q : Sequencer) : (s.setSeq q).pkt = s.pkt := rfl
@[simp] theorem State.setSeq_seq (s : State) (q : Sequencer) : (s.setSeq q).seq = q := rfl
@[simp] theorem State.setSeq_busy (s : State) (q : Sequencer) : (s.setSeq q).busy = s.busy := rfl
@[simp] theorem State.setSeq_sent (s : State) (q : Sequencer) : (s.setSeq q).sent = s.sent := rfl
@[simp] theorem State.setSeq_rsp (s : State) (q : Sequencer) : (s.setSeq q).rsp = s.rsp := rfl
@[simp] theorem State.setSeq_tx (s : State) (q : Sequencer) : (s.setSeq q).tx = s.tx := rfl
@[simp] theorem State.setSeq_frm (s : State) (q : Sequencer) : (s.setSeq q).frm = s.frm := rfl
@[simp] theorem State.setSeq_req (s : State) (q : Sequencer) : (s.setSeq q).req = s.req := rfl
@[simp] theorem State.setSeq_host (s : State) (q : Sequencer) : (s.setSeq q).host = s.host := rfl
@[simp] theorem State.setSeq_draws (s : State) (q : Sequencer) : (s.setSeq q).draws = s.draws := rfl
@[simp] theorem State.setSeq_resetLine (s : State) (q : Sequencer) : (s.setSeq q).resetLine = s.resetLine := rfl
@[simp] theorem State.setSeq_trace (s : State) (q : Sequencer) : (s.setSeq q).trace = s.trace := rfl
@[simp] theorem State.setSeq_responses (s : State) (q : Sequencer) : (s.setSeq q).responses = s.responses := rfl

/-! ### setSession -/

@[simp] theorem State.setSession_session (s : State) (x : Session) : (s.setSession x).session = x := rfl
@[simp] theorem State.setSession_shadow (s : State) (x : Session) : (s.setSession x).shadow = s.shadow := rfl
@[simp] theorem State.setSession_tgt (s : State) (x : Session) : (s.setSession x).tgt = s.tgt := rfl
@[simp] theorem State.setSession_op (s : State) (x : Session) : (s.setSession x).op = s.op := rfl
@[simp] theorem State.setSession_prof (s : State) (x : Session) : (s.setSession x).prof = s.prof := rfl
@[simp] theorem State.setSession_uf (s : State) (x : Session) : (s.setSession x).uf = s.uf := rfl
@[simp] theorem State.setSession_acc (s : State) (x : Session) : (s.setSession x).acc = s.acc := rfl
@[simp] theorem State.setSession_pkt (s : State) (x : Session) : (s.setSession x).pkt = s.pkt := rfl
@[simp] theorem State.setSession_seq (s : State) (x : Session) : (s.setSession x).seq = s.seq := rfl
@[simp] theorem State.setSession_busy (s : State) (x : Session) : (s.setSession x).busy = s.busy := rfl
@[simp] theorem State.setSession_sent (s : State) (x : Session) : (s.setSession x).sent = s.sent := rfl
@[simp] theorem State.setSession_rsp (s : State) (x : Session) : (s.setSession x).rsp = s.rsp := rfl
@[simp] theorem State.setSession_tx (s : State) (x : Session) : (s.setSession x).tx = s.tx := rfl
@[simp] theorem State.setSession_frm (s : State) (x : Session) : (s.setSession x).frm = s.frm := rfl
@[simp] theorem State.setSession_req (s : State) (x : Session) : (s.setSession x).req = s.req := rfl
@[simp] theorem State.setSession_host (s : State) (x : Session) : (s.setSession x).host = s.host := rfl
@[simp] theorem State.setSession_draws (s : State) (x : Session) : (s.setSession x).draws = s.draws := rfl
@[simp] theorem State.setSession_resetLine (s : State) (x : Session) : (s.setSession x).resetLine = s.resetLine := rfl
@[simp] theorem State.setSession_trace (s : State) (x : Session) : (s.setSession x).trace = s.trace := rfl
@[simp] theorem State.setSession_responses (s : State) (x : Session) : (s.setSession x).responses = s.responses := rfl

/-! ### setTgt -/

@[simp] theorem State.setTgt_session (s : State) (f : Frame) : (s.setTgt f).session = s.session := rfl
@[simp] theorem State.setTgt_shadow (s : State) (f : Frame) : (s.setTgt f).shadow = s.shadow := rfl
@[simp] theorem State.setTgt_tgt (s : State) (f : Frame) : (s.setTgt f).tgt = f := rfl
@[simp] theorem State.setTgt_op (s : State) (f : Frame) : (s.setTgt f).op = s.op := rfl
@[simp] theorem State.setTgt_prof (s : State) (f : Frame) : (s.setTgt f).prof = s.prof := rfl
@[simp] theorem State.setTgt_uf (s : State) (f : Frame) : (s.setTgt f).uf = s.uf := rfl
@[simp] theorem State.setTgt_acc (s : State) (f : Frame) : (s.setTgt f).acc = s.acc := rfl
@[simp] theorem State.setTgt_pkt (s : State) (f : Frame) : (s.setTgt f).pkt = s.pkt := rfl
@[simp] theorem State.setTgt_seq (s : State) (f : Frame) : (s.setTgt f).seq = s.seq := rfl
@[simp] theorem State.setTgt_busy (s : State) (f : Frame) : (s.setTgt f).busy = s.busy := rfl
@[simp] theorem State.setTgt_sent (s : State) (f : Frame) : (s.setTgt f).sent = s.sent := rfl
@[simp] theorem State.setTgt_rsp (s : State) (f : Frame) : (s.setTgt f).rsp = s.rsp := rfl
@[simp] theorem State.setTgt_tx (s : State) (f : Frame) : (s.setTgt f).tx = s.tx := rfl
@[simp] theorem State.setTgt_frm (s : State) (f : Frame) : (s.setTgt f).frm = s.frm := rfl
@[simp] theorem State.setTgt_req (s : State) (f : Frame) : (s.setTgt f).req = s.req := rfl
@[simp] theorem State.setTgt_host (s : State) (f : Frame) : (s.setTgt f).host = s.host := rfl
@[simp] theorem State.setTgt_draws (s : State) (f : Frame) : (s.setTgt f).draws = s.draws := rfl
@[simp] theorem State.setTgt_resetLine (s : State) (f : Frame) : (s.setTgt f).resetLine = s.resetLine := rfl
@[simp] theorem State.setTgt_trace (s : State) (f : Frame) : (s.setTgt f).trace = s.trace := rfl
@[simp] theorem State.setTgt_responses (s : State) (f : Frame) : (s.setTgt f).responses = s.responses := rfl

/-! ### latch -/

@[simp] theorem State.latch_session (s : State) (op : BitVec 3) (h : Header) : (s.latch op h).session = s.session := rfl
@[simp] theorem State.latch_shadow (s : State) (op : BitVec 3) (h : Header) : (s.latch op h).shadow = s.shadow := rfl
@[simp] theorem State.latch_tgt (s : State) (op : BitVec 3) (h : Header) : (s.latch op h).tgt = s.tgt := rfl
@[simp] theorem State.latch_op (s : State) (op : BitVec 3) (h : Header) : (s.latch op h).op = op := rfl
@[simp] theorem State.latch_prof (s : State) (op : BitVec 3) (h : Header) : (s.latch op h).prof = h.prof := rfl
@[simp] theorem State.latch_uf (s : State) (op : BitVec 3) (h : Header) : (s.latch op h).uf = h.uf := rfl
@[simp] theorem State.latch_acc (s : State) (op : BitVec 3) (h : Header) : (s.latch op h).acc = h.acc := rfl
@[simp] theorem State.latch_pkt (s : State) (op : BitVec 3) (h : Header) : (s.latch op h).pkt = s.pkt := rfl
@[simp] theorem State.latch_seq (s : State) (op : BitVec 3) (h : Header) : (s.latch op h).seq = s.seq := rfl
@[simp] theorem State.latch_busy (s : State) (op : BitVec 3) (h : Header) : (s.latch op h).busy = true := rfl
@[simp] theorem State.latch_sent (s : State) (op : BitVec 3) (h : Header) : (s.latch op h).sent = 0 := rfl
@[simp] theorem State.latch_rsp (s : State) (op : BitVec 3) (h : Header) : (s.latch op h).rsp = s.rsp := rfl
@[simp] theorem State.latch_tx (s : State) (op : BitVec 3) (h : Header) : (s.latch op h).tx = s.tx := rfl
@[simp] theorem State.latch_frm (s : State) (op : BitVec 3) (h : Header) : (s.latch op h).frm = s.frm := rfl
@[simp] theorem State.latch_req (s : State) (op : BitVec 3) (h : Header) : (s.latch op h).req = none := rfl
@[simp] theorem State.latch_host (s : State) (op : BitVec 3) (h : Header) : (s.latch op h).host = s.host := rfl
@[simp] theorem State.latch_draws (s : State) (op : BitVec 3) (h : Header) : (s.latch op h).draws = s.draws := rfl
@[simp] theorem State.latch_resetLine (s : State) (op : BitVec 3) (h : Header) : (s.latch op h).resetLine = s.resetLine := rfl
@[simp] theorem State.latch_trace (s : State) (op : BitVec 3) (h : Header) : (s.latch op h).trace = s.trace := rfl
@[simp] theorem State.latch_responses (s : State) (op : BitVec 3) (h : Header) : (s.latch op h).responses = s.responses := rfl

/-! ### confirmKeys -/

@[simp] theorem State.confirmKeys_session (s : State) (first len : Nat) : (s.confirmKeys first len).session = s.session := rfl
@[simp] theorem State.confirmKeys_shadow (s : State) (first len : Nat) : (s.confirmKeys first len).shadow = copyKeys first len s.tgt s.shadow := rfl
@[simp] theorem State.confirmKeys_tgt (s : State) (first len : Nat) : (s.confirmKeys first len).tgt = s.tgt := rfl
@[simp] theorem State.confirmKeys_op (s : State) (first len : Nat) : (s.confirmKeys first len).op = s.op := rfl
@[simp] theorem State.confirmKeys_prof (s : State) (first len : Nat) : (s.confirmKeys first len).prof = s.prof := rfl
@[simp] theorem State.confirmKeys_uf (s : State) (first len : Nat) : (s.confirmKeys first len).uf = s.uf := rfl
@[simp] theorem State.confirmKeys_acc (s : State) (first len : Nat) : (s.confirmKeys first len).acc = s.acc := rfl
@[simp] theorem State.confirmKeys_pkt (s : State) (first len : Nat) : (s.confirmKeys first len).pkt = s.pkt := rfl
@[simp] theorem State.confirmKeys_seq (s : State) (first len : Nat) : (s.confirmKeys first len).seq = s.seq := rfl
@[simp] theorem State.confirmKeys_busy (s : State) (first len : Nat) : (s.confirmKeys first len).busy = s.busy := rfl
@[simp] theorem State.confirmKeys_sent (s : State) (first len : Nat) : (s.confirmKeys first len).sent = s.sent := rfl
@[simp] theorem State.confirmKeys_rsp (s : State) (first len : Nat) : (s.confirmKeys first len).rsp = s.rsp := rfl
@[simp] theorem State.confirmKeys_tx (s : State) (first len : Nat) : (s.confirmKeys first len).tx = s.tx := rfl
@[simp] theorem State.confirmKeys_frm (s : State) (first len : Nat) : (s.confirmKeys first len).frm = s.frm := rfl
@[simp] theorem State.confirmKeys_req (s : State) (first len : Nat) : (s.confirmKeys first len).req = s.req := rfl
@[simp] theorem State.confirmKeys_host (s : State) (first len : Nat) : (s.confirmKeys first len).host = s.host := rfl
@[simp] theorem State.confirmKeys_draws (s : State) (first len : Nat) : (s.confirmKeys first len).draws = s.draws := rfl
@[simp] theorem State.confirmKeys_resetLine (s : State) (first len : Nat) : (s.confirmKeys first len).resetLine = s.resetLine := rfl
@[simp] theorem State.confirmKeys_trace (s : State) (first len : Nat) : (s.confirmKeys first len).trace = s.trace := rfl
@[simp] theorem State.confirmKeys_responses (s : State) (first len : Nat) : (s.confirmKeys first len).responses = s.responses := rfl

/-! ### submit -/

@[simp] theorem State.submit_session (s : State) (k : ReportKind) : (s.submit k).session = s.session := rfl
@[simp] theorem State.submit_shadow (s : State) (k : ReportKind) : (s.submit k).shadow = s.shadow := rfl
@[simp] theorem State.submit_tgt (s : State) (k : ReportKind) : (s.submit k).tgt = s.tgt := rfl
@[simp] theorem State.submit_op (s : State) (k : ReportKind) : (s.submit k).op = s.op := rfl
@[simp] theorem State.submit_prof (s : State) (k : ReportKind) : (s.submit k).prof = s.prof := rfl
@[simp] theorem State.submit_uf (s : State) (k : ReportKind) : (s.submit k).uf = s.uf := rfl
@[simp] theorem State.submit_acc (s : State) (k : ReportKind) : (s.submit k).acc = s.acc := rfl
@[simp] theorem State.submit_pkt (s : State) (k : ReportKind) : (s.submit k).pkt = packetOf Config.params s.tgt k := rfl
@[simp] theorem State.submit_seq (s : State) (k : ReportKind) : (s.submit k).seq = s.seq := rfl
@[simp] theorem State.submit_busy (s : State) (k : ReportKind) : (s.submit k).busy = s.busy := rfl
@[simp] theorem State.submit_sent (s : State) (k : ReportKind) : (s.submit k).sent = s.sent := rfl
@[simp] theorem State.submit_rsp (s : State) (k : ReportKind) : (s.submit k).rsp = s.rsp := rfl
@[simp] theorem State.submit_tx (s : State) (k : ReportKind) : (s.submit k).tx = some (reportOf Config.params (packetOf Config.params s.tgt k)) := rfl
@[simp] theorem State.submit_frm (s : State) (k : ReportKind) : (s.submit k).frm = s.frm := rfl
@[simp] theorem State.submit_req (s : State) (k : ReportKind) : (s.submit k).req = s.req := rfl
@[simp] theorem State.submit_host (s : State) (k : ReportKind) : (s.submit k).host = s.host := rfl
@[simp] theorem State.submit_draws (s : State) (k : ReportKind) : (s.submit k).draws = s.draws := rfl
@[simp] theorem State.submit_resetLine (s : State) (k : ReportKind) : (s.submit k).resetLine = s.resetLine := rfl
@[simp] theorem State.submit_trace (s : State) (k : ReportKind) : (s.submit k).trace = s.trace := rfl
@[simp] theorem State.submit_responses (s : State) (k : ReportKind) : (s.submit k).responses = s.responses := rfl

/-! ### answer -/

@[simp] theorem State.answer_session (s : State) (o : SendOutcome) (l : List TransportDraw) : (s.answer o l).session = s.session := rfl
@[simp] theorem State.answer_shadow (s : State) (o : SendOutcome) (l : List TransportDraw) : (s.answer o l).shadow = s.shadow := rfl
@[simp] theorem State.answer_tgt (s : State) (o : SendOutcome) (l : List TransportDraw) : (s.answer o l).tgt = s.tgt := rfl
@[simp] theorem State.answer_op (s : State) (o : SendOutcome) (l : List TransportDraw) : (s.answer o l).op = s.op := rfl
@[simp] theorem State.answer_prof (s : State) (o : SendOutcome) (l : List TransportDraw) : (s.answer o l).prof = s.prof := rfl
@[simp] theorem State.answer_uf (s : State) (o : SendOutcome) (l : List TransportDraw) : (s.answer o l).uf = s.uf := rfl
@[simp] theorem State.answer_acc (s : State) (o : SendOutcome) (l : List TransportDraw) : (s.answer o l).acc = s.acc := rfl
@[simp] theorem State.answer_pkt (s : State) (o : SendOutcome) (l : List TransportDraw) : (s.answer o l).pkt = s.pkt := rfl
@[simp] theorem State.answer_seq (s : State) (o : SendOutcome) (l : List TransportDraw) : (s.answer o l).seq = s.seq := rfl
@[simp] theorem State.answer_busy (s : State) (o : SendOutcome) (l : List TransportDraw) : (s.answer o l).busy = s.busy := rfl
@[simp] theorem State.answer_sent (s : State) (o : SendOutcome) (l : List TransportDraw) : (s.answer o l).sent = countSent o s.sent := rfl
@[simp] theorem State.answer_rsp (s : State) (o : SendOutcome) (l : List TransportDraw) : (s.answer o l).rsp = s.rsp := rfl
@[simp] theorem State.answer_tx (s : State) (o : SendOutcome) (l : List TransportDraw) : (s.answer o l).tx = none := rfl
@[simp] theorem State.answer_frm (s : State) (o : SendOutcome) (l : List TransportDraw) : (s.answer o l).frm = s.frm := rfl
@[simp] theorem State.answer_req (s : State) (o : SendOutcome) (l : List TransportDraw) : (s.answer o l).req = s.req := rfl
@[simp] theorem State.answer_host (s : State) (o : SendOutcome) (l : List TransportDraw) : (s.answer o l).host = s.host := rfl
@[simp] theorem State.answer_draws (s : State) (o : SendOutcome) (l : List TransportDraw) : (s.answer o l).draws = l := rfl
@[simp] theorem State.answer_resetLine (s : State) (o : SendOutcome) (l : List TransportDraw) : (s.answer o l).resetLine = s.resetLine := rfl
@[simp] theorem State.answer_trace (s : State) (o : SendOutcome) (l : List TransportDraw) : (s.answer o l).trace = s.trace ++ [⟨reportOf Config.params s.pkt, some o⟩] := rfl
@[simp] theorem State.answer_responses (s : State) (o : SendOutcome) (l : List TransportDraw) : (s.answer o l).responses = s.responses := rfl

/-! ### endOperation -/

@[simp] theorem State.endOperation_session (s : State) (c : Code) : (s.endOperation c).session = s.session := rfl
@[simp] theorem State.endOperation_shadow (s : State) (c : Code) : (s.endOperation c).shadow = s.shadow := rfl
@[simp] theorem State.endOperation_tgt (s : State) (c : Code) : (s.endOperation c).tgt = s.tgt := rfl
@[simp] theorem State.endOperation_op (s : State) (c : Code) : (s.endOperation c).op = s.op := rfl
@[simp] theorem State.endOperation_prof (s : State) (c : Code) : (s.endOperation c).prof = s.prof := rfl
@[simp] theorem State.endOperation_uf (s : State) (c : Code) : (s.endOperation c).uf = s.uf := rfl
@[simp] theorem State.endOperation_acc (s : State) (c : Code) : (s.endOperation c).acc = s.acc := rfl
@[simp] theorem State.endOperation_pkt (s : State) (c : Code) : (s.endOperation c).pkt = s.pkt := rfl
@[simp] theorem State.endOperation_seq (s : State) (c : Code) : (s.endOperation c).seq = .idle := rfl
@[simp] theorem State.endOperation_busy (s : State) (c : Code) : (s.endOperation c).busy = s.busy := rfl
@[simp] theorem State.endOperation_sent (s : State) (c : Code) : (s.endOperation c).sent = s.sent := rfl
@[simp] theorem State.endOperation_rsp (s : State) (c : Code) : (s.endOperation c).rsp = some (rspWord s.sent c) := rfl
@[simp] theorem State.endOperation_tx (s : State) (c : Code) : (s.endOperation c).tx = s.tx := rfl
@[simp] theorem State.endOperation_frm (s : State) (c : Code) : (s.endOperation c).frm = s.frm := rfl
@[simp] theorem State.endOperation_req (s : State) (c : Code) : (s.endOperation c).req = s.req := rfl
@[simp] theorem State.endOperation_host (s : State) (c : Code) : (s.endOperation c).host = s.host := rfl
@[simp] theorem State.endOperation_draws (s : State) (c : Code) : (s.endOperation c).draws = s.draws := rfl
@[simp] theorem State.endOperation_resetLine (s : State) (c : Code) : (s.endOperation c).resetLine = s.resetLine := rfl
@[simp] theorem State.endOperation_trace (s : State) (c : Code) : (s.endOperation c).trace = s.trace := rfl
@[simp] theorem State.endOperation_responses (s : State) (c : Code) : (s.endOperation c).responses = s.responses := rfl

/-! ### deliver -/

@[simp] theorem State.deliver_session (s : State) (r : RspWord) : (s.deliver r).session = s.session := rfl
@[simp] theorem State.deliver_shadow (s : State) (r : RspWord) : (s.deliver r).shadow = s.shadow := rfl
@[simp] theorem State.deliver_tgt (s : State) (r : RspWord) : (s.deliver r).tgt = s.tgt := rfl
@[simp] theorem State.deliver_op (s : State) (r : RspWord) : (s.deliver r).op = s.op := rfl
@[simp] theorem State.deliver_prof (s : State) (r : RspWord) : (s.deliver r).prof = s.prof := rfl
@[simp] theorem State.deliver_uf (s : State) (r : RspWord) : (s.deliver r).uf = s.uf := rfl
@[simp] theorem State.deliver_acc (s : State) (r : RspWord) : (s.deliver r).acc = s.acc := rfl
@[simp] theorem State.deliver_pkt (s : State) (r : RspWord) : (s.deliver r).pkt = s.pkt := rfl
@[simp] theorem State.deliver_seq (s : State) (r : RspWord) : (s.deliver r).seq = s.seq := rfl
@[simp] theorem State.deliver_busy (s : State) (r : RspWord) : (s.deliver r).busy = false := rfl
@[simp] theorem State.deliver_sent (s : State) (r : RspWord) : (s.deliver r).sent = s.sent := rfl
@[simp] theorem State.deliver_rsp (s : State) (r : RspWord) : (s.deliver r).rsp = none := rfl
@[simp] theorem State.deliver_tx (s : State) (r : RspWord) : (s.deliver r).tx = s.tx := rfl
@[simp] theorem State.deliver_frm (s : State) (r : RspWord) : (s.deliver r).frm = s.frm := rfl
@[simp] theorem State.deliver_req (s : State) (r : RspWord) : (s.deliver r).req = s.req := rfl
@[simp] theorem State.deliver_host (s : State) (r : RspWord) : (s.deliver r).host = s.host := rfl
@[simp] theorem State.deliver_draws (s : State) (r : RspWord) : (s.deliver r).draws = s.draws := rfl
@[simp] theorem State.deliver_resetLine (s : State) (r : RspWord) : (s.deliver r).resetLine = s.resetLine := rfl
@[simp] theorem State.deliver_trace (s : State) (r : RspWord) : (s.deliver r).trace = s.trace := rfl
@[simp] theorem State.deliver_responses (s : State) (r : RspWord) : (s.deliver r).responses = s.responses ++ [r] := rfl

/-! ### resetEvent -/

@[simp] theorem State.resetEvent_session (s : State) : s.resetEvent.session = State.reset.session := rfl
@[simp] theorem State.resetEvent_shadow (s : State) : s.resetEvent.shadow = State.reset.shadow := rfl
@[simp] theorem State.resetEvent_tgt (s : State) : s.resetEvent.tgt = State.reset.tgt := rfl
@[simp] theorem State.resetEvent_op (s : State) : s.resetEvent.op = State.reset.op := rfl
@[simp] theorem State.resetEvent_prof (s : State) : s.resetEvent.prof = State.reset.prof := rfl
@[simp] theorem State.resetEvent_uf (s : State) : s.resetEvent.uf = State.reset.uf := rfl
@[simp] theorem State.resetEvent_acc (s : State) : s.resetEvent.acc = State.reset.acc := rfl
@[simp] theorem State.resetEvent_pkt (s : State) : s.resetEvent.pkt = State.reset.pkt := rfl
@[simp] theorem State.resetEvent_seq (s : State) : s.resetEvent.seq = State.reset.seq := rfl
@[simp] theorem State.resetEvent_busy (s : State) : s.resetEvent.busy = State.reset.busy := rfl
@[simp] theorem State.resetEvent_sent (s : State) : s.resetEvent.sent = State.reset.sent := rfl
@[simp] theorem State.resetEvent_rsp (s : State) : s.resetEvent.rsp = State.reset.rsp := rfl
@[simp] theorem State.resetEvent_tx (s : State) : s.resetEvent.tx = State.reset.tx := rfl
@[simp] theorem State.resetEvent_frm (s : State) : s.resetEvent.frm = s.frm := rfl
@[simp] theorem State.resetEvent_req (s : State) : s.resetEvent.req = s.req := rfl
@[simp] theorem State.resetEvent_host (s : State) : s.resetEvent.host = s.host := rfl
@[simp] theorem State.resetEvent_draws (s : State) : s.resetEvent.draws = s.draws := rfl
@[simp] theorem State.resetEvent_resetLine (s : State) : s.resetEvent.resetLine = State.reset.resetLine := rfl
@[simp] theorem State.resetEvent_trace (s : State) : s.resetEvent.trace = abandonedTrace s := rfl
@[simp] theorem State.resetEvent_responses (s : State) : s.resetEvent.responses = s.responses := rfl

/-! ### finishExecute -/

@[simp] theorem State.finishExecute_shadow (s : State) (c : Code) : (s.finishExecute c).shadow = s.shadow := by
  unfold State.finishExecute; split <;> rfl
@[simp] theorem State.finishExecute_tgt (s : State) (c : Code) : (s.finishExecute c).tgt = s.tgt := by
  unfold State.finishExecute; split <;> rfl
@[simp] theorem State.finishExecute_op (s : State) (c : Code) : (s.finishExecute c).op = s.op := by
  unfold State.finishExecute; split <;> rfl
@[simp] theorem State.finishExecute_prof (s : State) (c : Code) : (s.finishExecute c).prof = s.prof := by
  unfold State.finishExecute; split <;> rfl
@[simp] theorem State.finishExecute_uf (s : State) (c : Code) : (s.finishExecute c).uf = s.uf := by
  unfold State.finishExecute; split <;> rfl
@[simp] theorem State.finishExecute_acc (s : State) (c : Code) : (s.finishExecute c).acc = s.acc := by
  unfold State.finishExecute; split <;> rfl
@[simp] theorem State.finishExecute_pkt (s : State) (c : Code) : (s.finishExecute c).pkt = s.pkt := by
  unfold State.finishExecute; split <;> rfl
@[simp] theorem State.finishExecute_busy (s : State) (c : Code) : (s.finishExecute c).busy = s.busy := by
  unfold State.finishExecute; split <;> rfl
@[simp] theorem State.finishExecute_sent (s : State) (c : Code) : (s.finishExecute c).sent = s.sent := by
  unfold State.finishExecute; split <;> rfl
@[simp] theorem State.finishExecute_tx (s : State) (c : Code) : (s.finishExecute c).tx = s.tx := by
  unfold State.finishExecute; split <;> rfl
@[simp] theorem State.finishExecute_frm (s : State) (c : Code) : (s.finishExecute c).frm = s.frm := by
  unfold State.finishExecute; split <;> rfl
@[simp] theorem State.finishExecute_req (s : State) (c : Code) : (s.finishExecute c).req = s.req := by
  unfold State.finishExecute; split <;> rfl
@[simp] theorem State.finishExecute_host (s : State) (c : Code) : (s.finishExecute c).host = s.host := by
  unfold State.finishExecute; split <;> rfl
@[simp] theorem State.finishExecute_draws (s : State) (c : Code) : (s.finishExecute c).draws = s.draws := by
  unfold State.finishExecute; split <;> rfl
@[simp] theorem State.finishExecute_resetLine (s : State) (c : Code) : (s.finishExecute c).resetLine = s.resetLine := by
  unfold State.finishExecute; split <;> rfl
@[simp] theorem State.finishExecute_trace (s : State) (c : Code) : (s.finishExecute c).trace = s.trace := by
  unfold State.finishExecute; split <;> rfl
@[simp] theorem State.finishExecute_responses (s : State) (c : Code) : (s.finishExecute c).responses = s.responses := by
  unfold State.finishExecute; split <;> rfl
@[simp] theorem State.finishExecute_seq (s : State) (c : Code) : (s.finishExecute c).seq = .idle := by
  unfold State.finishExecute; split <;> rfl
@[simp] theorem State.finishExecute_rsp (s : State) (c : Code) :
    (s.finishExecute c).rsp = some (rspWord s.sent c) := by
  unfold State.finishExecute; split <;> rfl
theorem State.finishExecute_session (s : State) (c : Code) :
    (s.finishExecute c).session = if s.op = opInit ∧ c = .ok then .initialized else s.session := by
  unfold State.finishExecute; split <;> rfl

/-! ### startPlan -/

@[simp] theorem State.startPlan_shadow (s : State) (p : Plan) : (s.startPlan p).shadow = s.shadow := by
  unfold State.startPlan; split <;> simp
@[simp] theorem State.startPlan_tgt (s : State) (p : Plan) : (s.startPlan p).tgt = s.tgt := by
  unfold State.startPlan; split <;> simp
@[simp] theorem State.startPlan_op (s : State) (p : Plan) : (s.startPlan p).op = s.op := by
  unfold State.startPlan; split <;> simp
@[simp] theorem State.startPlan_prof (s : State) (p : Plan) : (s.startPlan p).prof = s.prof := by
  unfold State.startPlan; split <;> simp
@[simp] theorem State.startPlan_uf (s : State) (p : Plan) : (s.startPlan p).uf = s.uf := by
  unfold State.startPlan; split <;> simp
@[simp] theorem State.startPlan_acc (s : State) (p : Plan) : (s.startPlan p).acc = s.acc := by
  unfold State.startPlan; split <;> simp
@[simp] theorem State.startPlan_pkt (s : State) (p : Plan) : (s.startPlan p).pkt = s.pkt := by
  unfold State.startPlan; split <;> simp
@[simp] theorem State.startPlan_busy (s : State) (p : Plan) : (s.startPlan p).busy = s.busy := by
  unfold State.startPlan; split <;> simp
@[simp] theorem State.startPlan_sent (s : State) (p : Plan) : (s.startPlan p).sent = s.sent := by
  unfold State.startPlan; split <;> simp
@[simp] theorem State.startPlan_tx (s : State) (p : Plan) : (s.startPlan p).tx = s.tx := by
  unfold State.startPlan; split <;> simp
@[simp] theorem State.startPlan_frm (s : State) (p : Plan) : (s.startPlan p).frm = s.frm := by
  unfold State.startPlan; split <;> simp
@[simp] theorem State.startPlan_req (s : State) (p : Plan) : (s.startPlan p).req = s.req := by
  unfold State.startPlan; split <;> simp
@[simp] theorem State.startPlan_host (s : State) (p : Plan) : (s.startPlan p).host = s.host := by
  unfold State.startPlan; split <;> simp
@[simp] theorem State.startPlan_draws (s : State) (p : Plan) : (s.startPlan p).draws = s.draws := by
  unfold State.startPlan; split <;> simp
@[simp] theorem State.startPlan_resetLine (s : State) (p : Plan) : (s.startPlan p).resetLine = s.resetLine := by
  unfold State.startPlan; split <;> simp
@[simp] theorem State.startPlan_trace (s : State) (p : Plan) : (s.startPlan p).trace = s.trace := by
  unfold State.startPlan; split <;> simp
@[simp] theorem State.startPlan_responses (s : State) (p : Plan) : (s.startPlan p).responses = s.responses := by
  unfold State.startPlan; split <;> simp

/-! ### advance -/

@[simp] theorem State.advance_shadow (s : State) (o : SendOutcome) : (s.advance o).shadow = s.shadow := by
  unfold State.advance; (repeat' split) <;> simp
@[simp] theorem State.advance_tgt (s : State) (o : SendOutcome) : (s.advance o).tgt = s.tgt := by
  unfold State.advance; (repeat' split) <;> simp
@[simp] theorem State.advance_op (s : State) (o : SendOutcome) : (s.advance o).op = s.op := by
  unfold State.advance; (repeat' split) <;> simp
@[simp] theorem State.advance_prof (s : State) (o : SendOutcome) : (s.advance o).prof = s.prof := by
  unfold State.advance; (repeat' split) <;> simp
@[simp] theorem State.advance_uf (s : State) (o : SendOutcome) : (s.advance o).uf = s.uf := by
  unfold State.advance; (repeat' split) <;> simp
@[simp] theorem State.advance_acc (s : State) (o : SendOutcome) : (s.advance o).acc = s.acc := by
  unfold State.advance; (repeat' split) <;> simp
@[simp] theorem State.advance_pkt (s : State) (o : SendOutcome) : (s.advance o).pkt = s.pkt := by
  unfold State.advance; (repeat' split) <;> simp
@[simp] theorem State.advance_busy (s : State) (o : SendOutcome) : (s.advance o).busy = s.busy := by
  unfold State.advance; (repeat' split) <;> simp
@[simp] theorem State.advance_sent (s : State) (o : SendOutcome) : (s.advance o).sent = s.sent := by
  unfold State.advance; (repeat' split) <;> simp
@[simp] theorem State.advance_tx (s : State) (o : SendOutcome) : (s.advance o).tx = s.tx := by
  unfold State.advance; (repeat' split) <;> simp
@[simp] theorem State.advance_frm (s : State) (o : SendOutcome) : (s.advance o).frm = s.frm := by
  unfold State.advance; (repeat' split) <;> simp
@[simp] theorem State.advance_req (s : State) (o : SendOutcome) : (s.advance o).req = s.req := by
  unfold State.advance; (repeat' split) <;> simp
@[simp] theorem State.advance_host (s : State) (o : SendOutcome) : (s.advance o).host = s.host := by
  unfold State.advance; (repeat' split) <;> simp
@[simp] theorem State.advance_draws (s : State) (o : SendOutcome) : (s.advance o).draws = s.draws := by
  unfold State.advance; (repeat' split) <;> simp
@[simp] theorem State.advance_resetLine (s : State) (o : SendOutcome) : (s.advance o).resetLine = s.resetLine := by
  unfold State.advance; (repeat' split) <;> simp
@[simp] theorem State.advance_trace (s : State) (o : SendOutcome) : (s.advance o).trace = s.trace := by
  unfold State.advance; (repeat' split) <;> simp
@[simp] theorem State.advance_responses (s : State) (o : SendOutcome) : (s.advance o).responses = s.responses := by
  unfold State.advance; (repeat' split) <;> simp

/-! ### onConfirm -/

@[simp] theorem State.onConfirm_session (s : State) (k : ReportKind) : (s.onConfirm k).session = s.session := by
  unfold State.onConfirm; split <;> simp
@[simp] theorem State.onConfirm_tgt (s : State) (k : ReportKind) : (s.onConfirm k).tgt = s.tgt := by
  unfold State.onConfirm; split <;> simp
@[simp] theorem State.onConfirm_op (s : State) (k : ReportKind) : (s.onConfirm k).op = s.op := by
  unfold State.onConfirm; split <;> simp
@[simp] theorem State.onConfirm_prof (s : State) (k : ReportKind) : (s.onConfirm k).prof = s.prof := by
  unfold State.onConfirm; split <;> simp
@[simp] theorem State.onConfirm_uf (s : State) (k : ReportKind) : (s.onConfirm k).uf = s.uf := by
  unfold State.onConfirm; split <;> simp
@[simp] theorem State.onConfirm_acc (s : State) (k : ReportKind) : (s.onConfirm k).acc = s.acc := by
  unfold State.onConfirm; split <;> simp
@[simp] theorem State.onConfirm_pkt (s : State) (k : ReportKind) : (s.onConfirm k).pkt = s.pkt := by
  unfold State.onConfirm; split <;> simp
@[simp] theorem State.onConfirm_seq (s : State) (k : ReportKind) : (s.onConfirm k).seq = s.seq := by
  unfold State.onConfirm; split <;> simp
@[simp] theorem State.onConfirm_busy (s : State) (k : ReportKind) : (s.onConfirm k).busy = s.busy := by
  unfold State.onConfirm; split <;> simp
@[simp] theorem State.onConfirm_sent (s : State) (k : ReportKind) : (s.onConfirm k).sent = s.sent := by
  unfold State.onConfirm; split <;> simp
@[simp] theorem State.onConfirm_rsp (s : State) (k : ReportKind) : (s.onConfirm k).rsp = s.rsp := by
  unfold State.onConfirm; split <;> simp
@[simp] theorem State.onConfirm_tx (s : State) (k : ReportKind) : (s.onConfirm k).tx = s.tx := by
  unfold State.onConfirm; split <;> simp
@[simp] theorem State.onConfirm_frm (s : State) (k : ReportKind) : (s.onConfirm k).frm = s.frm := by
  unfold State.onConfirm; split <;> simp
@[simp] theorem State.onConfirm_req (s : State) (k : ReportKind) : (s.onConfirm k).req = s.req := by
  unfold State.onConfirm; split <;> simp
@[simp] theorem State.onConfirm_host (s : State) (k : ReportKind) : (s.onConfirm k).host = s.host := by
  unfold State.onConfirm; split <;> simp
@[simp] theorem State.onConfirm_draws (s : State) (k : ReportKind) : (s.onConfirm k).draws = s.draws := by
  unfold State.onConfirm; split <;> simp
@[simp] theorem State.onConfirm_resetLine (s : State) (k : ReportKind) : (s.onConfirm k).resetLine = s.resetLine := by
  unfold State.onConfirm; split <;> simp
@[simp] theorem State.onConfirm_trace (s : State) (k : ReportKind) : (s.onConfirm k).trace = s.trace := by
  unfold State.onConfirm; split <;> simp
@[simp] theorem State.onConfirm_responses (s : State) (k : ReportKind) : (s.onConfirm k).responses = s.responses := by
  unfold State.onConfirm; split <;> simp

/-! ### transact -/

@[simp] theorem State.transact_tgt (s : State) (k : ReportKind) : (s.transact k).tgt = s.tgt := by
  unfold State.transact; (repeat' split) <;> simp
@[simp] theorem State.transact_op (s : State) (k : ReportKind) : (s.transact k).op = s.op := by
  unfold State.transact; (repeat' split) <;> simp
@[simp] theorem State.transact_prof (s : State) (k : ReportKind) : (s.transact k).prof = s.prof := by
  unfold State.transact; (repeat' split) <;> simp
@[simp] theorem State.transact_uf (s : State) (k : ReportKind) : (s.transact k).uf = s.uf := by
  unfold State.transact; (repeat' split) <;> simp
@[simp] theorem State.transact_acc (s : State) (k : ReportKind) : (s.transact k).acc = s.acc := by
  unfold State.transact; (repeat' split) <;> simp
@[simp] theorem State.transact_busy (s : State) (k : ReportKind) : (s.transact k).busy = s.busy := by
  unfold State.transact; (repeat' split) <;> simp
@[simp] theorem State.transact_frm (s : State) (k : ReportKind) : (s.transact k).frm = s.frm := by
  unfold State.transact; (repeat' split) <;> simp
@[simp] theorem State.transact_req (s : State) (k : ReportKind) : (s.transact k).req = s.req := by
  unfold State.transact; (repeat' split) <;> simp
@[simp] theorem State.transact_host (s : State) (k : ReportKind) : (s.transact k).host = s.host := by
  unfold State.transact; (repeat' split) <;> simp
@[simp] theorem State.transact_resetLine (s : State) (k : ReportKind) : (s.transact k).resetLine = s.resetLine := by
  unfold State.transact; (repeat' split) <;> simp
@[simp] theorem State.transact_responses (s : State) (k : ReportKind) : (s.transact k).responses = s.responses := by
  unfold State.transact; (repeat' split) <;> simp

/-! ### hostMove -/

@[simp] theorem State.hostMove_session (s : State) : s.hostMove.session = s.session := by
  unfold State.hostMove; split <;> rfl
@[simp] theorem State.hostMove_shadow (s : State) : s.hostMove.shadow = s.shadow := by
  unfold State.hostMove; split <;> rfl
@[simp] theorem State.hostMove_tgt (s : State) : s.hostMove.tgt = s.tgt := by
  unfold State.hostMove; split <;> rfl
@[simp] theorem State.hostMove_op (s : State) : s.hostMove.op = s.op := by
  unfold State.hostMove; split <;> rfl
@[simp] theorem State.hostMove_prof (s : State) : s.hostMove.prof = s.prof := by
  unfold State.hostMove; split <;> rfl
@[simp] theorem State.hostMove_uf (s : State) : s.hostMove.uf = s.uf := by
  unfold State.hostMove; split <;> rfl
@[simp] theorem State.hostMove_acc (s : State) : s.hostMove.acc = s.acc := by
  unfold State.hostMove; split <;> rfl
@[simp] theorem State.hostMove_pkt (s : State) : s.hostMove.pkt = s.pkt := by
  unfold State.hostMove; split <;> rfl
@[simp] theorem State.hostMove_seq (s : State) : s.hostMove.seq = s.seq := by
  unfold State.hostMove; split <;> rfl
@[simp] theorem State.hostMove_busy (s : State) : s.hostMove.busy = s.busy := by
  unfold State.hostMove; split <;> rfl
@[simp] theorem State.hostMove_sent (s : State) : s.hostMove.sent = s.sent := by
  unfold State.hostMove; split <;> rfl
@[simp] theorem State.hostMove_rsp (s : State) : s.hostMove.rsp = s.rsp := by
  unfold State.hostMove; split <;> rfl
@[simp] theorem State.hostMove_tx (s : State) : s.hostMove.tx = s.tx := by
  unfold State.hostMove; split <;> rfl
@[simp] theorem State.hostMove_draws (s : State) : s.hostMove.draws = s.draws := by
  unfold State.hostMove; split <;> rfl
@[simp] theorem State.hostMove_resetLine (s : State) : s.hostMove.resetLine = s.resetLine := by
  unfold State.hostMove; split <;> rfl
@[simp] theorem State.hostMove_trace (s : State) : s.hostMove.trace = s.trace := by
  unfold State.hostMove; split <;> rfl
@[simp] theorem State.hostMove_responses (s : State) : s.hostMove.responses = s.responses := by
  unfold State.hostMove; split <;> rfl

end Sys2Proof.Machine
end

