-- ==== Sys2Proof/Laws/Ops.lean ====
section
/-! SUPPORT. What each shared operation, each family of meanings and one step can do, said once. -/

namespace Sys2Proof.Machine

/-! ### One transaction (R5, R13, R106) -/

theorem State.transact_waits (s : State) (k : ReportKind) (h : s.draws = []) : s.transact k = s.submit k := by
  simp [State.transact, h]

theorem State.transact_ok (s : State) (k : ReportKind) (d : TransportDraw) (later : List TransportDraw)
    (h : s.draws = d :: later) (ho : d.outcome = .ok) :
    s.transact k = (((s.submit k).answer .ok later).onConfirm k).advance .ok := by
  simp [State.transact, h, ho]

theorem State.transact_fail (s : State) (k : ReportKind) (d : TransportDraw) (later : List TransportDraw)
    (h : s.draws = d :: later) (ho : d.outcome = .fail) :
    s.transact k = ((s.submit k).answer .fail later).advance .fail := by
  simp [State.transact, h, ho]

/-- Everything a transaction can do: wait, be confirmed, or fail. -/
theorem State.transact_cases (s : State) (k : ReportKind) :
    (s.draws = [] ∧ s.transact k = s.submit k) ∨
    (∃ d later, s.draws = d :: later ∧ d.outcome = .ok ∧
      s.transact k = (((s.submit k).answer .ok later).onConfirm k).advance .ok) ∨
    (∃ d later, s.draws = d :: later ∧ d.outcome = .fail ∧
      s.transact k = ((s.submit k).answer .fail later).advance .fail) := by
  cases hd : s.draws with
  | nil => exact .inl ⟨rfl, s.transact_waits k hd⟩
  | cons d later =>
    cases ho : d.outcome with
    | ok => exact .inr (.inl ⟨d, later, rfl, ho, s.transact_ok k d later hd ho⟩)
    | fail => exact .inr (.inr ⟨d, later, rfl, ho, s.transact_fail k d later hd ho⟩)

/-! ### RunPlan's move by position (R106) -/

theorem State.advance_idle (s : State) (o : SendOutcome) (h : s.seq = .idle) : s.advance o = s := by
  simp [State.advance, h]

theorem State.advance_start_ok (s : State) (plan : Plan) (g : Nat) (h : s.seq = .running plan g .start) :
    s.advance .ok = s.setSeq (.running plan g (bodyOrFinal plan g 0)) := by
  simp [State.advance, h]

theorem State.advance_start_fail (s : State) (plan : Plan) (g : Nat) (h : s.seq = .running plan g .start) :
    s.advance .fail = s.finishExecute .transportError := by
  simp [State.advance, h]

theorem State.advance_body_ok (s : State) (plan : Plan) (g j : Nat) (h : s.seq = .running plan g (.body j)) :
    s.advance .ok = s.setSeq (.running plan g (bodyOrFinal plan g (j + 1))) := by
  simp [State.advance, h]

theorem State.advance_body_fail (s : State) (plan : Plan) (g j : Nat) (h : s.seq = .running plan g (.body j)) :
    s.advance .fail = s.setSeq (.running plan g .finalAfterFail) := by
  simp [State.advance, h]

theorem State.advance_final_ok (s : State) (plan : Plan) (g : Nat) (h : s.seq = .running plan g .final) :
    s.advance .ok =
      if g + 1 < plan.length then s.setSeq (.running plan (g + 1) .start) else s.finishExecute .ok := by
  simp [State.advance, h]

theorem State.advance_final_fail (s : State) (plan : Plan) (g : Nat) (h : s.seq = .running plan g .final) :
    s.advance .fail = s.finishExecute .transportError := by
  simp [State.advance, h]

theorem State.advance_finalAfterFail (s : State) (plan : Plan) (g : Nat) (o : SendOutcome)
    (h : s.seq = .running plan g .finalAfterFail) : s.advance o = s.finishExecute .transportError := by
  simp [State.advance, h]

/-! ### The lifecycle (R110) -/

theorem State.ready_iff (s : State) : s.ready = true ↔ s.busy = false ∧ s.seq = .idle := by
  simp [State.ready]

theorem State.not_ready_iff (s : State) : s.ready = false ↔ s.busy = true ∨ s.seq ≠ .idle := by
  cases hb : s.busy <;> simp [State.ready, hb]

theorem accept_waits (op : BitVec 3) (h : Header) (f : State → State) (s : State) (hr : s.ready = false) :
    accept op h f s = s := by
  simp [accept, hr]

theorem accept_ok (op : BitVec 3) (h : Header) (f : State → State) (s : State) (hr : s.ready = true)
    (hc : check op h s.session = .ok) : accept op h f s = f (s.latch op h) := by
  simp [accept, hr, hc]

theorem accept_rejected (op : BitVec 3) (h : Header) (f : State → State) (s : State) (hr : s.ready = true)
    (hc : check op h s.session ≠ .ok) :
    accept op h f s = (s.latch op h).endOperation (check op h s.session) := by
  unfold accept
  rw [if_neg (by simp [hr])]
  cases hk : check op h s.session <;> simp_all

/-- Everything an acceptance can do: nothing, the op's `Execute`, or the end with the code of `Check`. -/
theorem accept_cases (op : BitVec 3) (h : Header) (f : State → State) (s : State) :
    (s.ready = false ∧ accept op h f s = s) ∨
    (s.ready = true ∧ check op h s.session = .ok ∧ accept op h f s = f (s.latch op h)) ∨
    (s.ready = true ∧ check op h s.session ≠ .ok ∧
      accept op h f s = (s.latch op h).endOperation (check op h s.session)) := by
  cases hr : s.ready with
  | false => exact .inl ⟨rfl, accept_waits op h f s hr⟩
  | true =>
    by_cases hc : check op h s.session = .ok
    · exact .inr (.inl ⟨rfl, hc, accept_ok op h f s hr hc⟩)
    · exact .inr (.inr ⟨rfl, hc, accept_rejected op h f s hr hc⟩)

/-! ### The meanings, by family -/

/-- What a request executes once it is accepted, by op code (R121 to R124, R143, R167). -/
def executeOf (op : BitVec 3) (s : State) : State :=
  if op = opInit then
    ((s.setTgt (initTarget s.uf s.frm)).setSession .opened).startPlan (initPlan Config.params s.prof)
  else if op = opWriteFrame then
    (s.setTgt (sampleFrame s.frm)).startPlan
      (writeFramePlan (frameRuns s.acc (sampleFrame s.frm) s.shadow))
  else if op = opWriteFullFrame then (s.setTgt (sampleFrame s.frm)).startPlan fullFramePlan
  else if op = opSelect then (s.setSession .selected).finishExecute .ok
  else if op = opOpen then (s.setSession .opened).finishExecute .ok
  else if op = opClose then (s.setSession .disconnected).finishExecute .ok
  else s.endOperation .validationError

/-- Every request is an acceptance with its op's `Execute`. -/
theorem exec_request (i : Instr) (op : BitVec 3) (h : Header) (s : State) (hi : i.request? = some (op, h)) :
    exec i s = .next (accept op h (executeOf op) s) := by
  cases i <;> simp only [Instr.request?, Option.some.injEq, Prod.mk.injEq, reduceCtorEq] at hi <;>
    obtain ⟨rfl, rfl⟩ := hi <;> rfl

/-- Every report with operands in range is one transaction. -/
theorem exec_report (k : ReportKind) (s : State) (hk : k.toInstr.wellFormed = true) :
    exec k.toInstr s = .next (s.transact k) := by
  match k with
  | .start => rfl
  | .stop => rfl
  | .body (.sub _ _) => rfl
  | .body (.kc first len) =>
    simp only [ReportKind.toInstr, Instr.wellFormed] at hk
    simp [ReportKind.toInstr, exec, execKeycolors, hk]
  | .body (.profile p) =>
    simp only [ReportKind.toInstr, Instr.wellFormed, ne_eq, decide_eq_true_eq] at hk
    show (if p = 0 then _ else _) = _
    rw [if_neg hk]

/-- A report with an operand out of range stops. -/
theorem exec_report_outOfRange (k : ReportKind) (s : State) (hk : k.toInstr.wellFormed = false) :
    exec k.toInstr s = .fault .operandOutOfRange := by
  match k with
  | .start => simp [ReportKind.toInstr, Instr.wellFormed] at hk
  | .stop => simp [ReportKind.toInstr, Instr.wellFormed] at hk
  | .body (.sub _ _) => simp [ReportKind.toInstr, Instr.wellFormed] at hk
  | .body (.kc first len) =>
    simp only [ReportKind.toInstr, Instr.wellFormed] at hk
    simp [ReportKind.toInstr, exec, execKeycolors, hk]
  | .body (.profile p) =>
    simp only [ReportKind.toInstr, Instr.wellFormed, ne_eq, decide_eq_false_iff_not, not_not] at hk
    simp [ReportKind.toInstr, exec, execSetProfile, hk]

/-- Every 32-bit word decodes to a request. -/
theorem decodeRequest_request? (w : ReqWord) :
    (decodeRequest w).request? = some (w.extractLsb' 0 3, headerOf w) := by
  have hlt := (w.extractLsb' 0 3).isLt
  have key : ∀ n : Nat, n < 8 → (w.extractLsb' 0 3).toNat = n → w.extractLsb' 0 3 = BitVec.ofNat 3 n := by
    intro n hn h
    apply BitVec.eq_of_toNat_eq
    rw [h, BitVec.toNat_ofNat]
    omega
  unfold decodeRequest
  generalize hn : (w.extractLsb' 0 3).toNat = n at *
  have hk := key n (by omega) rfl
  match n, hlt with
  | 0, _ | 1, _ | 2, _ | 3, _ | 4, _ | 5, _ | 6, _ | 7, _ => (simp only [Instr.request?, hk]; rfl)

/-! ### One step -/

theorem step_reset (s : State) (h : s.resetLine = true) : step s = .next s.resetEvent := by
  simp [step, nextAction, h]

theorem step_deliver (s : State) (r : RspWord) (h : s.resetLine = false) (hr : s.rsp = some r) :
    step s = .next (s.deliver r) := by
  simp [step, nextAction, h, hr]

theorem step_running (s : State) (plan : Plan) (g : Nat) (pos : Pos) (k : ReportKind)
    (h : s.resetLine = false) (hr : s.rsp = none) (hs : s.seq = .running plan g pos)
    (hk : dueKind plan g pos = some k) : step s = exec k.toInstr s := by
  simp [step, nextAction, h, hr, hs, hk]

theorem step_outsidePlan (s : State) (plan : Plan) (g : Nat) (pos : Pos)
    (h : s.resetLine = false) (hr : s.rsp = none) (hs : s.seq = .running plan g pos)
    (hk : dueKind plan g pos = none) : step s = .fault .seqOutsidePlan := by
  simp [step, nextAction, h, hr, hs, hk]

theorem step_blocked (s : State) (h : s.resetLine = false) (hr : s.rsp = none) (hs : s.seq = .idle)
    (hb : s.busy = true) : step s = .next s := by
  simp [step, nextAction, h, hr, hs, hb]

theorem step_request (s : State) (w : ReqWord) (h : s.Presents w) : step s = exec (decodeRequest w) s := by
  simp [step, nextAction, h.noReset, h.noResponse, h.idle, h.notBusy, h.request]

theorem step_hostMove (s : State) (h : s.resetLine = false) (hr : s.rsp = none) (hs : s.seq = .idle)
    (hb : s.busy = false) (hq : s.req = none) : step s = .next s.hostMove := by
  simp [step, nextAction, h, hr, hs, hb, hq]

/-- Everything a step that answers a next state can be: the reset event, a delivery, one transaction of the report `seq`
stands at, a wait of a busy block, an acceptance, or the host's move. -/
theorem step_cases (s t : State) (h : step s = .next t) :
    (s.resetLine = true ∧ t = s.resetEvent) ∨
    (∃ r, s.resetLine = false ∧ s.rsp = some r ∧ t = s.deliver r) ∨
    (∃ plan g pos k, s.resetLine = false ∧ s.rsp = none ∧ s.seq = .running plan g pos ∧
      dueKind plan g pos = some k ∧ k.toInstr.wellFormed = true ∧ t = s.transact k) ∨
    (s.resetLine = false ∧ s.rsp = none ∧ s.seq = .idle ∧ s.busy = true ∧ t = s) ∨
    (∃ w, s.Presents w ∧
      t = accept (w.extractLsb' 0 3) (headerOf w) (executeOf (w.extractLsb' 0 3)) s) ∨
    (s.resetLine = false ∧ s.rsp = none ∧ s.seq = .idle ∧ s.busy = false ∧ s.req = none ∧ t = s.hostMove) := by
  cases hl : s.resetLine with
  | true =>
    rw [step_reset s hl] at h
    exact .inl ⟨rfl, (Host.Outcome.next.inj h).symm⟩
  | false =>
    cases hr : s.rsp with
    | some r =>
      rw [step_deliver s r hl hr] at h
      exact .inr (.inl ⟨r, rfl, rfl, (Host.Outcome.next.inj h).symm⟩)
    | none =>
      cases hs : s.seq with
      | running plan g pos =>
        cases hk : dueKind plan g pos with
        | none => rw [step_outsidePlan s plan g pos hl hr hs hk] at h; exact absurd h (by simp)
        | some k =>
          rw [step_running s plan g pos k hl hr hs hk] at h
          cases hw : k.toInstr.wellFormed with
          | false => rw [exec_report_outOfRange k s hw] at h; exact absurd h (by simp)
          | true =>
            rw [exec_report k s hw] at h
            exact .inr (.inr (.inl ⟨plan, g, pos, k, rfl, rfl, rfl, hk, hw, (Host.Outcome.next.inj h).symm⟩))
      | idle =>
        cases hb : s.busy with
        | true =>
          rw [step_blocked s hl hr hs hb] at h
          exact .inr (.inr (.inr (.inl ⟨rfl, rfl, rfl, rfl, (Host.Outcome.next.inj h).symm⟩)))
        | false =>
          cases hq : s.req with
          | none =>
            rw [step_hostMove s hl hr hs hb hq] at h
            exact .inr (.inr (.inr (.inr (.inr ⟨rfl, rfl, rfl, rfl, rfl, (Host.Outcome.next.inj h).symm⟩))))
          | some w =>
            have hp : s.Presents w := ⟨hl, hr, hs, hb, hq⟩
            rw [step_request s w hp, exec_request _ _ _ s (decodeRequest_request? w)] at h
            exact .inr (.inr (.inr (.inr (.inl ⟨w, hp, (Host.Outcome.next.inj h).symm⟩))))

/-! ### Runs -/

theorem State.after_zero (s : State) : s.after 0 = .next s := rfl

theorem State.after_succ (s t : State) (k : Nat) (h : step s = .next t) : s.after (k + 1) = t.after k := by
  have h' : Sys2Proof.core.step s = .next t := h
  simp only [State.after, Host.Core.run, h']
  rfl

theorem State.after_fault (s : State) (r : Fault) (k : Nat) (h : step s = .fault r) : s.after (k + 1) = .fault r := by
  have h' : Sys2Proof.core.step s = .fault r := h
  simp only [State.after, Host.Core.run, h']
  rfl

theorem State.after_refused (s : State) (r : Refusal) (k : Nat) (h : step s = .refused r) :
    s.after (k + 1) = .refused r := by
  have h' : Sys2Proof.core.step s = .refused r := h
  simp only [State.after, Host.Core.run, h']
  rfl

theorem State.after_add (s t : State) (j k : Nat) (h : s.after j = .next t) : s.after (j + k) = t.after k := by
  induction j generalizing s with
  | zero =>
    have : s = t := Host.Outcome.next.inj h
    simp [this]
  | succ j ih =>
    cases hs : step s with
    | fault r => rw [State.after_fault s r j hs] at h; exact absurd h (by simp)
    | refused r => rw [State.after_refused s r j hs] at h; exact absurd h (by simp)
    | next u =>
      rw [State.after_succ s u j hs] at h
      rw [show j + 1 + k = (j + k) + 1 by omega, State.after_succ s u _ hs]
      exact ih u h

end Sys2Proof.Machine
end

