-- ==== Sys2Proof/Laws/PerInstr.lean ====
section
/-! SUPPORT. What holds of every instruction as syntax, one lemma for each constructor: its encoding lies in its own
domain (R60), a request word carries its op code in bits [2:0] (R61), a report is 64 bytes led by `REPORT_ID` (R68). -/

namespace Sys2Proof.Laws.EncodedDomain

/-- Where the encoding of an instruction lies (R60). -/
def Statement (i : Instr) : Prop :=
  ∀ (c : Params) (tgt : Frame),
    match encode c tgt i with
    | .request w => ∃ op h, i.request? = some (op, h) ∧ w.extractLsb' 0 3 = op
    | .report bytes => i.request? = none ∧ bytes.length = 64 ∧ bytes.getD 0 0 = c.reportId

/-- The low three bits of a word whose last field has three bits. -/
theorem low_field (x : BitVec 29) (op : BitVec 3) : ((x ++ op : BitVec 32)).extractLsb' 0 3 = op := by
  apply BitVec.eq_of_getLsbD_eq
  intro i hi
  rw [BitVec.getLsbD_extractLsb', Nat.zero_add, decide_eq_true hi, Bool.true_and, BitVec.getLsbD_append]
  simp [hi]

/-- Bits [2:0] of an encoded header are its op code. -/
theorem op_bits (op : BitVec 3) (h : Header) : (encodeRequest op h).extractLsb' 0 3 = op :=
  low_field (h.acc ++ h.rsv15 ++ h.len ++ h.rsv76 ++ h.uf ++ h.prof) op

/-- The statement for a request. -/
theorem of_request (i : Instr) (op : BitVec 3) (h : Header) (hi : i.request? = some (op, h)) : Statement i := by
  intro c tgt
  simp only [encode, hi]
  exact ⟨op, h, rfl, op_bits op h⟩

/-- The statement for a report. -/
theorem of_report (i : Instr) (hi : i.request? = none) : Statement i := by
  intro c tgt
  simp only [encode, hi]
  exact ⟨trivial, by simp [encodeReport], rfl⟩

theorem init (h : Header) : Statement (.init h) := of_request _ _ h rfl
theorem writeFrame (h : Header) : Statement (.writeFrame h) := of_request _ _ h rfl
theorem writeFullFrame (h : Header) : Statement (.writeFullFrame h) := of_request _ _ h rfl
theorem select (h : Header) : Statement (.select h) := of_request _ _ h rfl
theorem openChannel (h : Header) : Statement (.openChannel h) := of_request _ _ h rfl
theorem closeChannel (h : Header) : Statement (.closeChannel h) := of_request _ _ h rfl
theorem reserved011 (h : Header) : Statement (.reserved011 h) := of_request _ _ h rfl
theorem reserved111 (h : Header) : Statement (.reserved111 h) := of_request _ _ h rfl
theorem startReport : Statement .startReport := of_report _ rfl
theorem endReport : Statement .endReport := of_report _ rfl
theorem subcommand (s a : Byte) : Statement (.subcommand s a) := of_report _ rfl
theorem keycolors (first len : Nat) : Statement (.keycolors first len) := of_report _ rfl
theorem setProfile (p : BitVec 2) : Statement (.setProfile p) := of_report _ rfl

end Sys2Proof.Laws.EncodedDomain
end

