-- ==== Sys2Proof/Laws/Plans.lean ====
section
/-! SUPPORT. What the plans, the positions within them and the response word can do. -/

namespace Sys2Proof.Machine

/-- The seven chunks of a full frame (R142). -/
theorem chunks_keyCap :
    chunks Config.keyCap = [.kc 0 18, .kc 18 18, .kc 36 18, .kc 54 18, .kc 72 18, .kc 90 18, .kc 108 18] := by decide

theorem planValid_fullFramePlan : planValid fullFramePlan = true := by decide

theorem planSends_fullFramePlan : planSends fullFramePlan = 9 := by decide

@[simp] theorem planSends_nil : planSends [] = 0 := rfl

@[simp] theorem planSends_cons (grp : BracketGroup) (plan : Plan) :
    planSends (grp :: plan) = groupSends grp + planSends plan := by simp [planSends]

/-- The `Send`s from group `g` on are those of group `g` and those behind it. -/
theorem planSends_drop (plan : Plan) (g : Nat) (hg : g < plan.length) :
    planSends (plan.drop g) = groupSends (plan.getD g []) + planSends (plan.drop (g + 1)) := by
  rw [List.drop_eq_getElem_cons hg, planSends_cons]
  simp [List.getD_eq_getElem?_getD, hg]

/-- A position that names a report stands in a group of its plan. -/
theorem dueKind_group (plan : Plan) (g : Nat) (pos : Pos) (k : ReportKind) (h : dueKind plan g pos = some k) :
    g < plan.length := by
  unfold dueKind at h
  by_contra hg
  rw [List.getElem?_eq_none (by omega)] at h
  simp at h

/-- The report at a position of a valid plan is within its range. -/
theorem dueKind_wellFormed (plan : Plan) (g : Nat) (pos : Pos) (k : ReportKind) (hv : planValid plan = true)
    (h : dueKind plan g pos = some k) : k.toInstr.wellFormed = true := by
  unfold dueKind at h
  cases hg : plan[g]? with
  | none => simp [hg] at h
  | some grp =>
    have hgrp : ∀ d ∈ grp, d.valid = true := by
      simp only [planValid, List.all_eq_true] at hv
      exact hv grp (List.mem_of_getElem? hg)
    cases pos with
    | start => simp only [hg, Option.some.injEq] at h; subst h; rfl
    | body j =>
      simp only [hg, Option.map_eq_some_iff] at h
      obtain ⟨d, hd, rfl⟩ := h
      exact hgrp d (List.mem_of_getElem? hd)
    | final => simp only [hg, Option.some.injEq] at h; subst h; rfl
    | finalAfterFail => simp only [hg, Option.some.injEq] at h; subst h; rfl

/-- The fields of a response word (R66). -/
theorem rspWord_fields (sent : BitVec 8) (c : Code) :
    (rspWord sent c).extractLsb' 0 2 = c.bits ∧ (rspWord sent c).extractLsb' 2 6 = 0 ∧
      (rspWord sent c).extractLsb' 8 8 = sent := by
  cases c <;> revert sent <;> decide +kernel

end Sys2Proof.Machine
end

