-- ==== Sys2Proof/Tests/Slice0.lean ====
section
/-! SUPPORT. Tests on fixed values. Expected results are the spec's own vectors (95_test_vectors.md, named V-…), and the
witness theorems show that the hypotheses of each statement can be met together. -/

namespace Sys2Proof.Tests

open Sys2Proof.Machine

/-! ### Fixed data -/

/-- The test configuration TC1 (D32): not the device's values. -/
def tc1 : Params where
  reportId := 0xA0
  cmdStart := 0x11
  cmdStop := 0x12
  cmdSubcommand := 0x13
  cmdKeycolors := 0x14
  subMode := 0x21
  subPoll := 0x22
  subDelay := 0x23
  argModeCustom := 0x31
  argPoll := 0x32
  argDelay := 0x33
  profileTemplate := Vector.ofFn fun i => BitVec.ofNat 8 (0x40 + i.val)
  profileBaseAbove3 := 2
  profileSelPos := 2

def white : Color := ⟨255, 255, 255⟩
def red : Color := ⟨255, 0, 0⟩
def blue : Color := ⟨0, 0, 255⟩
def black : Color := ⟨0, 0, 0⟩

/-- A frame port that carries the colour `f k` on lane `k`. -/
def lanes (f : Nat → Color) : Lanes := Vector.ofFn fun i => (f i.val).r ++ (f i.val).g ++ (f i.val).b

/-- The source's scenario: keys 0 to 4 red, key 100 blue, the rest white. -/
def f1 : Lanes := lanes fun k => if k < 5 then red else if k = 100 then blue else white

/-- White, with every 18th key below `n` black. -/
def spaced (n : Nat) : Lanes := lanes fun k => if k % 18 = 0 ∧ k < n then black else white

/-- Which of 126 keys are dirty. -/
def dirtyAt (ks : List Nat) : List Bool := (List.range 126).map fun k => decide (k ∈ ks)

def taken : TransportDraw := ⟨true, true⟩
def rejected : TransportDraw := ⟨true, false⟩
def noDevice : TransportDraw := ⟨false, true⟩

/-- A header with only `LEN` = 126 and an accuracy. -/
def frameHeader (acc : BitVec 16) : Header := ⟨0, 0, 0, 126, 0, acc⟩

/-- The block idle in a session state. -/
def idleIn (ses : Session) : State := { State.reset with session := ses }

/-- The block idle with a request presented. -/
def asked (ses : Session) (w : ReqWord) (frm : Lanes) (draws : List TransportDraw) : State :=
  { State.reset with session := ses, req := some w, frm := frm, draws := draws }

/-- A frame update at a position of its plan, the frame of `f1` as target. -/
def underway (plan : Plan) (pos : Pos) (draws : List TransportDraw) : State :=
  { State.reset with
    session := .initialized, op := opWriteFrame, busy := true, tgt := sampleFrame f1
    seq := .running plan 0 pos, draws := draws }

/-- A field of the next state. -/
def onNext {α : Type} (f : State → α) : Result → Option α
  | .next t => some (f t)
  | .fault _ => none
  | .refused _ => none

/-! ### WellFormed refuses each ill-formed operand -/

theorem test_keycolors_needs_a_key : (Instr.keycolors 0 0).wellFormed = false := by decide
theorem test_keycolors_at_most_18_keys : (Instr.keycolors 0 19).wellFormed = false := by decide
theorem test_keycolors_stays_in_the_frame : (Instr.keycolors 109 18).wellFormed = false := by decide
theorem test_keycolors_last_chunk_is_wellFormed : (Instr.keycolors 108 18).wellFormed = true := by decide
theorem test_profile_zero_refused : (Instr.setProfile 0).wellFormed = false := by decide
theorem test_reserved_bits_are_seen :
    ¬ (headerOf 0x00000044).ReservedClear ∧ ¬ (headerOf 0x00000080).ReservedClear ∧
      ¬ (headerOf 0x00008001).ReservedClear := by decide

/-! ### Decoding: words written out from the encodings -/

/-- R61, bit by bit: `ACC` 0x4000, bit 15 clear, `LEN` 126, `UF` 1, `PROF` 2, each op code in turn. -/
theorem test_decode_requests :
    decodeRequest 0b0100000000000000_0_1111110_00_1_10_000 = .init ⟨2, 1, 0, 126, 0, 0x4000⟩ ∧
    decodeRequest 0b0100000000000000_0_1111110_00_1_10_001 = .writeFrame ⟨2, 1, 0, 126, 0, 0x4000⟩ ∧
    decodeRequest 0b0100000000000000_0_1111110_00_1_10_010 = .writeFullFrame ⟨2, 1, 0, 126, 0, 0x4000⟩ ∧
    decodeRequest 0b0100000000000000_0_1111110_00_1_10_011 = .reserved011 ⟨2, 1, 0, 126, 0, 0x4000⟩ ∧
    decodeRequest 0b0100000000000000_0_1111110_00_1_10_100 = .select ⟨2, 1, 0, 126, 0, 0x4000⟩ ∧
    decodeRequest 0b0100000000000000_0_1111110_00_1_10_101 = .openChannel ⟨2, 1, 0, 126, 0, 0x4000⟩ ∧
    decodeRequest 0b0100000000000000_0_1111110_00_1_10_110 = .closeChannel ⟨2, 1, 0, 126, 0, 0x4000⟩ ∧
    decodeRequest 0b0100000000000000_0_1111110_00_1_10_111 = .reserved111 ⟨2, 1, 0, 126, 0, 0x4000⟩ := by
  decide

/-- V-P1, V-P2 (R69, R70). -/
theorem test_decode_start_end :
    decode tc1 false (.report ([0xA0, 0x11, 0x00, 0x11] ++ List.replicate 60 0)) = .ok .startReport ∧
    decode tc1 false (.report ([0xA0, 0x12, 0x00, 0x12] ++ List.replicate 60 0)) = .ok .endReport := by
  decide +kernel

/-- V-P3 (R71). -/
theorem test_decode_subcommand :
    decode tc1 false (.report ([0xA0, 0x65, 0x00, 0x13, 0x21, 0, 0, 0, 0x31] ++ List.replicate 55 0)) =
      .ok (.subcommand 0x21 0x31) := by
  decide +kernel

/-- V-P10 (R72): the start offset 300 = 0x012C. -/
theorem test_decode_keycolors :
    decode tc1 false
      (.report ([0xA0, 0x43, 0x01, 0x14, 0x03, 0x2C, 0x01, 0x00, 0x00, 0x00, 0xFF] ++ List.replicate 53 0)) =
      .ok (.keycolors 100 1) := by
  decide +kernel

/-- V-P8 (R73). -/
theorem test_decode_setProfile :
    decode tc1 true (.report ([0xA0, 0x2F, 0x15, 0x00, 0x00, 0x40, 0x41, 0x02] ++
      (List.range 56).map fun i => BitVec.ofNat 8 (0x43 + i))) = .ok (.setProfile 3) := by
  decide +kernel

/-- A wrong checksum, a stray byte and an unknown command are rejected by name. -/
theorem test_decode_rejects :
    decode tc1 false (.report ([0xA0, 0x12, 0x00, 0x11] ++ List.replicate 60 0)) = .error .badChecksum ∧
    decode tc1 false (.report ([0xA0, 0x12, 0x00, 0x11, 0x01] ++ List.replicate 59 0)) = .error .strayByte ∧
    decode tc1 false (.report ([0xA0, 0x15, 0x00, 0x15] ++ List.replicate 60 0)) = .error (.unknownCommand 0x15) ∧
    decode tc1 false (.report [0xA0, 0x11, 0x00, 0x11]) = .error (.wrongLength 4) := by
  decide +kernel

/-- The host's words (R81). -/
theorem test_decode_table_words :
    decodeTableWord 32 0x80007E01 = some (.writeFrame ⟨0, 0, 0, 126, 0, 0x8000⟩) ∧
    decodeTableWord 32 0x00000006 = some (.closeChannel ⟨0, 0, 0, 0, 0, 0⟩) := by
  decide

/-! ### Reports as the transport receives them -/

/-- V-P7 and V-P11, the largest KEYCOLORS checksum. -/
theorem test_report_data :
    (reportOf tc1 (packetOf tc1 (sampleFrame f1) (.body (.profile 2)))).data.toList =
      [0x2E, 0x15, 0x00, 0x00, 0x40, 0x41, 0x01] ++ (List.range 56).map (fun i => BitVec.ofNat 8 (0x43 + i)) ∧
    (reportOf tc1 (packetOf tc1 (Vector.replicate _ white) (.body (.kc 85 18)))).data.toList =
      [0x13, 0x37, 0x14, 0x36, 0xFF, 0x00, 0x00] ++ List.replicate 54 0xFF ++ [0x00, 0x00] := by
  decide +kernel

/-- V-P9: five red keys. -/
theorem test_report_data_red :
    (reportOf tc1 (packetOf tc1 (sampleFrame f1) (.body (.kc 0 5)))).data.toList =
      [0x1E, 0x05, 0x14, 0x0F, 0x00, 0x00, 0x00, 0xFF, 0, 0, 0xFF, 0, 0, 0xFF, 0, 0, 0xFF, 0, 0, 0xFF] ++
        List.replicate 43 0 := by
  decide +kernel

/-- V-C2, V-C3, V-C5. -/
theorem test_checksum :
    checksum (Vector.replicate _ 0xFF) = 0x3CC3 ∧
    checksum (pktWrite (pktWrite (pktWrite zeroPacket 0 0xFF) 1 0xFF) 2 0xFF) = 0 ∧
    checksum (Vector.ofFn fun i => BitVec.ofNat 8 i.val) = 0x07DD := by
  decide +kernel

/-! ### Change test, runs, chunks -/

/-- The thresholds of R157 and §2.4. -/
theorem test_thresholds :
    [0x8000, 0x7FFF, 0x6666, 0x4000, 0x0001, 0x0000].map threshold = [0, 0, 153, 382, 764, 765] := by decide

/-- V-T1, V-T3a, V-T3b, V-T4, V-T5, V-T7, V-T10. -/
theorem test_isDirty :
    isDirty 0x8000 ⟨255, 255, 254⟩ white = true ∧
    isDirty 0x4000 ⟨255, 127, 0⟩ black = false ∧ isDirty 0x4000 ⟨255, 128, 0⟩ black = true ∧
    isDirty 0x0000 white black = false ∧ isDirty 0x0001 white black = true ∧
    isDirty 0x8000 ⟨50, 100, 0⟩ ⟨100, 50, 0⟩ = false ∧ isDirty 0x4000 ⟨0, 255, 255⟩ white = false := by
  decide

/-- V-D3, V-D12, V-D13a, V-D13b, V-D15. -/
theorem test_runs :
    runs none (dirtyAt (List.range 40)) = [⟨0, 18⟩, ⟨18, 18⟩, ⟨36, 4⟩] ∧
    runs none (dirtyAt [0, 17, 18]) = [⟨0, 18⟩, ⟨18, 1⟩] ∧
    runs none (dirtyAt [5, 22]) = [⟨5, 18⟩] ∧ runs none (dirtyAt [5, 23]) = [⟨5, 1⟩, ⟨23, 1⟩] ∧
    runs none (dirtyAt (List.range 18 ++ [19])) = [⟨0, 18⟩, ⟨19, 1⟩] := by
  decide +kernel

/-- V-D17, V-D18: the other reading of the gap, `GAP_LIMIT` = 1. -/
theorem test_runs_gap_one :
    runs (some 1) (dirtyAt [0, 2]) = [⟨0, 3⟩] ∧ runs (some 1) (dirtyAt [0, 3]) = [⟨0, 1⟩, ⟨3, 1⟩] := by
  decide +kernel

/-- R146. -/
theorem test_chunks :
    chunks 0 = [] ∧ chunks 1 = [.kc 0 1] ∧ chunks 19 = [.kc 0 18, .kc 18 1] ∧
      (chunks 125).getLast? = some (.kc 108 17) := by decide

/-! ### One step of each instruction -/

/-- V-S1, V-S10. -/
theorem test_step_select :
    onNext (fun t => (t.session, t.rsp)) (step (asked .disconnected 0x00000004 f1 [])) = some (.selected, some 0x0000) ∧
    onNext (fun t => (t.session, t.rsp)) (step (asked .selected 0x00000004 f1 [])) = some (.selected, some 0x0003) := by
  decide

/-- V-S2, V-S9. -/
theorem test_step_open :
    onNext (fun t => (t.session, t.rsp)) (step (asked .selected 0x00000005 f1 [])) = some (.opened, some 0x0000) ∧
    onNext (fun t => (t.session, t.rsp)) (step (asked .disconnected 0x00000005 f1 [])) =
      some (.disconnected, some 0x0003) := by
  decide

/-- V-S8. -/
theorem test_step_close :
    onNext (fun t => (t.session, t.rsp)) (step (asked .initialized 0x00000006 f1 [])) =
      some (.disconnected, some 0x0000) := by
  decide

/-- V-S5, and program P5 step 6. -/
theorem test_step_init :
    onNext (fun t => (t.session, t.rsp, t.seq.sendsLeft)) (step (asked .initialized 0x00000010 f1 [])) =
      some (.opened, none, 21) ∧
    onNext (fun t => (t.session, t.rsp)) (step (asked .opened 0x00000000 f1 [])) = some (.opened, some 0x0002) := by
  decide

/-- Program P1 step 4. -/
theorem test_step_writeFrame :
    onNext (fun t => t.seq) (step (asked .initialized 0x80007E01 f1 [])) =
      some (.running [[.kc 0 5, .kc 100 1]] 0 .start) := by
  decide +kernel

/-- Program P5 step 9, and R143. -/
theorem test_step_writeFullFrame :
    onNext (fun t => t.rsp) (step (asked .opened 0x00007E02 f1 [])) = some (some 0x0003) ∧
    onNext (fun t => t.seq.sendsLeft) (step (asked .initialized 0x00007E02 f1 [])) = some 9 := by
  decide

/-- Program P5 step 7, and R79 with all other bits set. -/
theorem test_step_reserved011 :
    onNext (fun t => t.rsp) (step (asked .opened 0x00000003 f1 [])) = some (some 0x0002) := by decide
theorem test_step_reserved111 :
    onNext (fun t => t.rsp) (step (asked .disconnected 0xFFFFFFFF f1 [])) = some (some 0x0002) := by decide

/-- Program P5 step 8 (no device), and a confirmed START. -/
theorem test_step_start :
    onNext (fun t => (t.seq, t.rsp)) (step (underway [[.kc 0 5]] .start [noDevice])) = some (.idle, some 0x0001) ∧
    onNext (fun t => (t.seq, t.sent)) (step (underway [[.kc 0 5]] .start [taken])) =
      some (.running [[.kc 0 5]] 0 (.body 0), 1) := by
  decide +kernel

/-- V-E2 and V-E3, their last `Send`, after four ok. -/
theorem test_step_end :
    onNext (fun t => t.rsp) (step { underway [[.kc 0 5]] .finalAfterFail [taken] with sent := 4 }) = some (some 0x0501) ∧
    onNext (fun t => t.rsp) (step { underway [[.kc 0 5]] .finalAfterFail [rejected] with sent := 4 }) =
      some (some 0x0401) := by
  decide +kernel

/-- A confirmed SUBCOMMAND changes no frame (R106). -/
theorem test_step_subcommand :
    onNext (fun t => (t.seq, keyRead t.shadow 0)) (step (underway [[.sub 7 9]] (.body 0) [taken])) =
      some (.running [[.sub 7 9]] 0 .final, white) := by
  decide +kernel

/-- A confirmed KEYCOLORS updates its keys and no other (R106); a failed one updates none. -/
theorem test_step_keycolors :
    onNext (fun t => (keyRead t.shadow 4, keyRead t.shadow 100)) (step (underway [[.kc 0 5]] (.body 0) [taken])) =
      some (red, white) ∧
    onNext (fun t => (keyRead t.shadow 4, t.seq)) (step (underway [[.kc 0 5]] (.body 0) [rejected])) =
      some (white, .running [[.kc 0 5]] 0 .finalAfterFail) := by
  decide +kernel

/-- A profile packet that waits for its answer (R94). -/
theorem test_step_setProfile :
    onNext (fun t => (t.seq, t.tx.isSome, t.trace.length)) (step (underway [[.profile 3]] (.body 0) [])) =
      some (.running [[.profile 3]] 0 (.body 0), true, 0) := by
  decide +kernel

/-- The host's placing of a request. -/
theorem test_withFetchWord :
    onNext (fun t => t.session) (step (State.reset.withFetchWord 32 0x00000004)) = some .selected := by decide

/-! ### Witnesses: the hypotheses of each statement, met together -/

/-- An idle block with a request presented meets the invariant. -/
theorem inv_asked (ses : Session) (w : ReqWord) (frm : Lanes) (draws : List TransportDraw) :
    (asked ses w frm draws).Inv where
  seqValid := rfl
  busyExact := by simp [asked, State.reset]
  rspIdle := fun _ => rfl
  rspShape := fun _ h => nomatch h
  sentBound := by simp [asked, State.reset, Sequencer.sendsLeft]
  inFlight := fun _ h => nomatch h
  opSession := fun h => absurd rfl h

theorem one_run_valid : Sequencer.valid (.running [[.kc 0 5]] 0 .start) = true := by decide

/-- A partial update of one run that stands at its START meets the invariant. -/
theorem inv_underway (draws : List TransportDraw) : (underway [[.kc 0 5]] .start draws).Inv where
  seqValid := one_run_valid
  busyExact := by simp [underway]
  rspIdle := fun h => absurd rfl h
  rspShape := fun _ h => nomatch h
  sentBound := by simp [underway, State.reset, Sequencer.sendsLeft, groupSends, planSends]
  inFlight := fun _ h => nomatch h
  opSession := fun _ => .inr ⟨.inl rfl, rfl⟩

/-- An idle block with the reset event asserted. -/
def resetting : State := { idleIn .opened with resetLine := true }

theorem inv_resetting : resetting.Inv where
  seqValid := rfl
  busyExact := by simp [resetting, idleIn, State.reset]
  rspIdle := fun _ => rfl
  rspShape := fun _ h => nomatch h
  sentBound := by simp [resetting, idleIn, State.reset, Sequencer.sendsLeft]
  inFlight := fun _ h => nomatch h
  opSession := fun h => absurd rfl h

/-- The last END of an INIT. -/
def initLastEnd : State :=
  { State.reset with
    session := .opened, op := opInit, busy := true, sent := 20, draws := [taken]
    seq := .running [[.kc 0 18]] 0 .final }

theorem inv_initLastEnd : initLastEnd.Inv where
  seqValid := by decide
  busyExact := by simp [initLastEnd]
  rspIdle := fun h => absurd rfl h
  rspShape := fun _ h => nomatch h
  sentBound := by simp [initLastEnd, Sequencer.sendsLeft, planSends]
  inFlight := fun _ h => nomatch h
  opSession := fun _ => .inl ⟨rfl, rfl⟩

theorem asked_presents (ses : Session) (w : ReqWord) (frm : Lanes) (draws : List TransportDraw) :
    (asked ses w frm draws).Presents w := ⟨rfl, rfl, rfl, rfl, rfl⟩

/-- As many answers as needed, all ok. -/
theorem okFor_taken (ses : Session) (w : ReqWord) (frm : Lanes) (n m : Nat) (h : n ≤ m) :
    (asked ses w frm (List.replicate m taken)).okFor n := by
  refine ⟨by simpa [asked] using h, fun d hd => ?_⟩
  rw [List.eq_of_mem_replicate (List.mem_of_mem_take hd)]
  rfl

theorem witness_DecodeOfEncodeIsIdentity :
    tc1.CodesDistinct ∧
    ((Instr.keycolors 108 18).wellFormed = true ∧ ∀ p, Instr.keycolors 108 18 ≠ .setProfile p) ∧
    ((Instr.setProfile 3).wellFormed = true ∧ ∃ p, Instr.setProfile 3 = .setProfile p) :=
  ⟨by decide, ⟨by decide, fun _ => by simp⟩, by decide, 3, rfl⟩

theorem witness_AcceptedReportIsAnEncoding : ∃ c b bytes i, decode c b (.report bytes) = .ok i :=
  ⟨_, _, _, _, test_decode_keycolors⟩

theorem witness_PacketMatchesLayoutTables :
    (ReportKind.body (.kc 108 18)).toInstr.wellFormed = true ∧ (ReportKind.body (.kc 125 1)).toInstr.wellFormed = true ∧
    (ReportKind.body (.profile 3)).toInstr.wellFormed = true := by decide

theorem witness_EveryReportCarriesItsChecksum :
    (underway [[.kc 0 5]] .start []).reportsGood ∧ ∃ t, step (underway [[.kc 0 5]] .start []) = .next t :=
  ⟨⟨fun _ h => (List.not_mem_nil h).elim, fun _ h => nomatch h⟩, _, rfl⟩

theorem witness_ResetEventAbandonsTheOperation :
    ({ underway [[.kc 0 5]] .start [] with resetLine := true } : State).resetLine = true := rfl

theorem witness_SelectCompletes :
    (idleIn .disconnected).busy = false ∧ (idleIn .disconnected).seq = .idle ∧
    (idleIn .disconnected).session = .disconnected ∧ (headerOf 0xFFFF7F3C).ReservedClear := by decide

theorem witness_OpenCompletes :
    (idleIn .selected).busy = false ∧ (idleIn .selected).seq = .idle ∧ (idleIn .selected).session = .selected ∧
    (headerOf 0x00000005).ReservedClear := by decide

theorem witness_CloseCompletes :
    (idleIn .initialized).busy = false ∧ (idleIn .initialized).seq = .idle ∧ (headerOf 0x00000006).ReservedClear := by
  decide

/-- The hypotheses on the state in `InitStartsItsFiveBrackets`, then those on the header, for `UF` 0 and 1. -/
theorem witness_InitStartsItsFiveBrackets :
    (idleIn .opened).busy = false ∧ (idleIn .opened).seq = .idle ∧
    ((idleIn .opened).session = .opened ∨ (idleIn .opened).session = .initialized) ∧
    ∀ h ∈ [headerOf 0x00000008, headerOf 0x00007E30], h.ReservedClear ∧ h.prof ≠ 0 ∧ (h.uf = 1 → h.len = 126) := by
  decide

theorem witness_WriteFullFrameStartsItsBracket :
    (idleIn .initialized).busy = false ∧ (idleIn .initialized).seq = .idle ∧
    (idleIn .initialized).session = .initialized ∧ (frameHeader 0).ReservedClear ∧ (frameHeader 0).len = 126 := by
  decide

/-- One state for each clause, at the counts where the clauses meet: 0, 1, 6 and 7 runs. -/
theorem witness_WriteFrameDecidesByItsRuns :
    (∀ frm, ({ idleIn .initialized with frm := frm } : State).busy = false ∧
      ({ idleIn .initialized with frm := frm } : State).seq = .idle ∧
      ({ idleIn .initialized with frm := frm } : State).session = .initialized) ∧
    ((frameHeader 0x8000).ReservedClear ∧ (frameHeader 0x8000).len = 126 ∧ (frameHeader 0x8000).acc.toNat ≤ 0x8000) ∧
    [spaced 0, spaced 1, spaced 108, spaced 126].map
      (fun frm => (frameRuns 0x8000 (frm.map laneColor) State.reset.shadow).length) = [0, 1, 6, 7] :=
  ⟨fun _ => ⟨rfl, rfl, rfl⟩, by decide, by decide +kernel⟩

theorem witness_ReservedOpCodesAnswerValidationError :
    (idleIn .disconnected).busy = false ∧ (idleIn .disconnected).seq = .idle := by decide

theorem witness_RejectedRequestDoesNoIO :
    (decodeRequest 0x80017E01).request? = some (opWriteFrame, frameHeader 0x8001) ∧
    (idleIn .initialized).busy = false ∧ (idleIn .initialized).seq = .idle ∧
    check opWriteFrame (frameHeader 0x8001) (idleIn .initialized).session ≠ .ok := by decide

theorem witness_RequestWaitsWhileBusy :
    (decodeRequest 0x00000006).request? = some (opClose, headerOf 0x00000006) ∧
    (underway [[.kc 0 5]] .start []).busy = true ∧ (underway [[.kc 0 5]] .start []).seq ≠ .idle ∧
    ∃ t, step (underway [[.kc 0 5]] .start []) = .next t :=
  ⟨by decide, rfl, by simp [underway], _, rfl⟩

/-- For a group with a body and for one without. -/
theorem witness_StartConfirmedOpensTheBracket :
    taken.outcome = .ok ∧ (underway [[.kc 0 5]] .start [taken]).draws = taken :: [] ∧
    (underway [[.kc 0 5]] .start [taken]).seq = .running [[.kc 0 5]] 0 .start ∧
    (underway [[]] .start [taken]).seq = .running [[]] 0 .start :=
  ⟨rfl, rfl, rfl, rfl⟩

theorem witness_StartFailedSendsNoEnd :
    noDevice.outcome = .fail ∧ (underway [[.kc 0 5]] .start [noDevice]).draws = noDevice :: [] ∧
    (underway [[.kc 0 5]] .start [noDevice]).seq = .running [[.kc 0 5]] 0 .start :=
  ⟨rfl, rfl, rfl⟩

theorem witness_SettingReportsConfirmed :
    taken.outcome = .ok ∧ (underway [[.profile 3]] (.body 0) [taken]).draws = taken :: [] ∧
    (underway [[.profile 3]] (.body 0) [taken]).seq = .running [[.profile 3]] 0 (.body 0) ∧ (3 : BitVec 2) ≠ 0 :=
  ⟨rfl, rfl, rfl, by decide⟩

/-- At the ends of the operand range: one key, and the last chunk. -/
theorem witness_KeycolorsConfirmedUpdatesExactlyItsKeys :
    taken.outcome = .ok ∧ (underway [[.kc 0 1, .kc 108 18]] (.body 1) [taken]).draws = taken :: [] ∧
    (underway [[.kc 0 1, .kc 108 18]] (.body 1) [taken]).seq = .running [[.kc 0 1, .kc 108 18]] 0 (.body 1) ∧
    (1 ≤ 1 ∧ 1 ≤ 18 ∧ 0 + 1 ≤ 126) ∧ (1 ≤ 18 ∧ 18 ≤ 18 ∧ 108 + 18 ≤ 126) :=
  ⟨rfl, rfl, rfl, by decide, by decide⟩

theorem witness_BodyFailedGoesToEndAttempt :
    rejected.outcome = .fail ∧ (underway [[.kc 108 18]] (.body 0) [rejected]).draws = rejected :: [] ∧
    (underway [[.kc 108 18]] (.body 0) [rejected]).seq = .running [[.kc 108 18]] 0 (.body 0) ∧
    (BodyReport.kc 108 18).valid = true ∧ (BodyReport.sub 7 9).valid = true ∧ (BodyReport.profile 3).valid = true :=
  ⟨rfl, rfl, rfl, by decide, by decide, by decide⟩

/-- One state for each clause: a plan with a group to come, and one without. -/
theorem witness_EndConfirmedStartsNextBracketOrAnswersOk :
    taken.outcome = .ok ∧
    ((underway [[], []] .final [taken]).draws = taken :: [] ∧
      (underway [[], []] .final [taken]).seq = .running [[], []] 0 .final ∧ 0 + 1 < ([[], []] : Plan).length) ∧
    ((underway [[]] .final [taken]).draws = taken :: [] ∧
      (underway [[]] .final [taken]).seq = .running [[]] 0 .final ∧ ([[]] : Plan).length ≤ 0 + 1) :=
  ⟨rfl, ⟨rfl, rfl, by decide⟩, rfl, rfl, by decide⟩

theorem witness_FailingBracketAnswersTransportError :
    (rejected.outcome = .fail ∧ (underway [[]] .final [rejected]).draws = rejected :: [] ∧
      (underway [[]] .final [rejected]).seq = .running [[]] 0 .final) ∧
    ((underway [[]] .finalAfterFail [taken]).draws = taken :: [] ∧
      (underway [[]] .finalAfterFail [taken]).seq = .running [[]] 0 .finalAfterFail) :=
  ⟨⟨rfl, rfl, rfl⟩, rfl, rfl⟩

/-- The three ways out of range, each at its boundary. -/
theorem witness_OutOfRangeReportsStop :
    (0 = 0 ∨ 18 < 0 ∨ 126 < 5 + 0) ∧ (19 = 0 ∨ 18 < 19 ∨ 126 < 0 + 19) ∧ (1 = 0 ∨ 18 < 1 ∨ 126 < 126 + 1) := by
  decide

theorem witness_ReportWaitsForItsAnswer :
    (underway [[.kc 0 5]] (.body 0) []).draws = [] ∧ (ReportKind.body (.kc 0 5)).toInstr.wellFormed = true :=
  ⟨rfl, by decide⟩

/-- Both clauses: a presented request, and a report of a plan. -/
theorem witness_StepRunsTheDecodedInstruction :
    (asked .opened 0x00000008 f1 []).Presents 0x00000008 ∧
    ((underway [[.kc 0 5]] (.body 0) []).resetLine = false ∧ (underway [[.kc 0 5]] (.body 0) []).rsp = none ∧
      (underway [[.kc 0 5]] (.body 0) []).seq = .running [[.kc 0 5]] 0 (.body 0) ∧
      dueKind [[.kc 0 5]] 0 (.body 0) = some (.body (.kc 0 5))) :=
  ⟨asked_presents _ _ _ _, rfl, rfl, rfl, rfl⟩

theorem witness_ResponseIsDeliveredOnce :
    ({ idleIn .opened with busy := true, rsp := some 0x1401 } : State).resetLine = false ∧
    ({ idleIn .opened with busy := true, rsp := some 0x1401 } : State).rsp = some 0x1401 :=
  ⟨rfl, rfl⟩

theorem witness_StepKeepsTheInvariant :
    (underway [[.kc 0 5]] .start [taken]).Inv ∧ ∃ t, step (underway [[.kc 0 5]] .start [taken]) = .next t :=
  ⟨inv_underway _, _, rfl⟩

theorem witness_InvariantStatesNeverStop : (underway [[.kc 0 5]] .start []).Inv := inv_underway _

/-- Each of the six edges is taken by some state of the invariant. -/
theorem witness_SessionMovesOnlyAlongItsEdges :
    (∀ ses w, (asked ses w f1 []).Inv) ∧ initLastEnd.Inv ∧ resetting.Inv ∧
    onNext (fun t => t.session) (step resetting) = some .disconnected ∧
    onNext (fun t => t.session) (step (asked .disconnected 0x00000004 f1 [])) = some .selected ∧
    onNext (fun t => t.session) (step (asked .selected 0x00000005 f1 [])) = some .opened ∧
    onNext (fun t => t.session) (step (asked .initialized 0x00000008 f1 [])) = some .opened ∧
    onNext (fun t => t.session) (step (asked .initialized 0x00000006 f1 [])) = some .disconnected ∧
    onNext (fun t => t.session) (step initLastEnd) = some .initialized :=
  ⟨fun _ _ => inv_asked _ _ _ _, inv_initLastEnd, inv_resetting, by decide, by decide, by decide, by decide, by decide, by decide⟩

theorem witness_SequencerNeverMovesBackwards :
    (underway [[.kc 0 5]] .start [taken]).seq = .running [[.kc 0 5]] 0 .start ∧
    (underway [[.kc 0 5]] .start [taken]).resetLine = false ∧ (underway [[.kc 0 5]] .start [taken]).rsp = none ∧
    ∃ t, step (underway [[.kc 0 5]] .start [taken]) = .next t :=
  ⟨rfl, rfl, rfl, _, rfl⟩

theorem witness_TargetAndLatchesHoldDuringAnOperation :
    (underway [[.kc 0 5]] .start [taken]).seq ≠ .idle ∧ (underway [[.kc 0 5]] .start [taken]).resetLine = false ∧
    ∃ t, step (underway [[.kc 0 5]] .start [taken]) = .next t :=
  ⟨by simp [underway], rfl, _, rfl⟩

theorem witness_ShadowChangesOnlyByConfirmedReports :
    ∃ t, step (underway [[.kc 0 5]] (.body 0) [taken]) = .next t ∧
      keyRead t.shadow 4 ≠ keyRead (underway [[.kc 0 5]] (.body 0) [taken]).shadow 4 :=
  ⟨_, rfl, by decide +kernel⟩

theorem witness_AtMostOneReportPerStep : ∃ t, step (underway [[.kc 0 5]] .start [taken]) = .next t := ⟨_, rfl⟩

theorem witness_BusyBlockIgnoresTheHostPorts : (underway [[.kc 0 5]] .start [taken]).busy = true := rfl

theorem witness_UnansweredSendBlocksUntilReset :
    (underway [[.kc 0 5]] .start []).Inv ∧ (underway [[.kc 0 5]] .start []).seq ≠ .idle ∧
    (underway [[.kc 0 5]] .start []).resetLine = false ∧ (underway [[.kc 0 5]] .start []).draws = [] :=
  ⟨inv_underway _, by simp [underway], rfl, rfl⟩

/-- Three `Send`s to come and three answers, one of them fail. -/
theorem witness_EveryAnsweredOperationEnds :
    (underway [[.kc 0 5]] .start [taken, rejected, taken]).Inv ∧
    (underway [[.kc 0 5]] .start [taken, rejected, taken]).resetLine = false ∧
    (underway [[.kc 0 5]] .start [taken, rejected, taken]).busy = true ∧
    (underway [[.kc 0 5]] .start [taken, rejected, taken]).seq.sendsLeft ≤ 3 :=
  ⟨inv_underway _, rfl, rfl, by decide⟩

/-- Two states, each of which meets every hypothesis: one whose run returns OK, and one whose run returns TransportError
after its END attempt. -/
theorem witness_StepsCarryOutRunPlan :
    ∀ q ∈ [([taken, taken, taken], Code.ok), ([taken, rejected, taken], Code.transportError)],
      ([[.kc 0 5]] : Plan) ≠ [] ∧ planValid [[.kc 0 5]] = true ∧
      (underway [[.kc 0 5]] .start q.1).seq = .running [[.kc 0 5]] 0 .start ∧
      (underway [[.kc 0 5]] .start q.1).rsp = none ∧ (underway [[.kc 0 5]] .start q.1).resetLine = false ∧
      ∃ a, PlanRun.runPlan Config.params (underway [[.kc 0 5]] .start q.1).tgt [[.kc 0 5]]
        ⟨(underway [[.kc 0 5]] .start q.1).draws, (underway [[.kc 0 5]] .start q.1).shadow,
          (underway [[.kc 0 5]] .start q.1).sent, (underway [[.kc 0 5]] .start q.1).trace⟩ = some (q.2, a) := by
  intro q hq
  refine ⟨by simp, by decide, rfl, rfl, rfl, ?_⟩
  rcases List.mem_pair.1 hq with rfl | rfl <;> exact ⟨_, rfl⟩

/-- For the default frame. -/
theorem witness_InitRunsItsTwentyOneReports :
    (asked .opened 0x00000008 f1 (List.replicate 21 taken)).Presents 0x00000008 ∧
    decodeRequest 0x00000008 = .init ⟨1, 0, 0, 0, 0, 0⟩ ∧ (headerOf 0x00000008).ReservedClear ∧
    (headerOf 0x00000008).prof ≠ 0 ∧ ((headerOf 0x00000008).uf = 1 → (headerOf 0x00000008).len = 126) ∧
    (asked .opened 0x00000008 f1 (List.replicate 21 taken)).session = .opened ∧
    (asked .opened 0x00000008 f1 (List.replicate 21 taken)).okFor 21 :=
  ⟨asked_presents _ _ _ _, by decide, by decide, by decide, by decide, rfl, okFor_taken _ _ _ 21 21 (by decide)⟩

/-- For a frame of the caller's, from Initialized. -/
theorem witness_InitRunsItsTwentyOneReports_callerFrame :
    (asked .initialized 0x00007E30 f1 (List.replicate 21 taken)).Presents 0x00007E30 ∧
    decodeRequest 0x00007E30 = .init ⟨2, 1, 0, 126, 0, 0⟩ ∧ (headerOf 0x00007E30).ReservedClear ∧
    (headerOf 0x00007E30).prof ≠ 0 ∧ ((headerOf 0x00007E30).uf = 1 → (headerOf 0x00007E30).len = 126) ∧
    (asked .initialized 0x00007E30 f1 (List.replicate 21 taken)).session = .initialized ∧
    (asked .initialized 0x00007E30 f1 (List.replicate 21 taken)).okFor 21 :=
  ⟨asked_presents _ _ _ _, by decide, by decide, by decide, by decide, rfl, okFor_taken _ _ _ 21 21 (by decide)⟩

theorem witness_WriteFullFrameRunsItsNineReports :
    (asked .initialized 0x00007E02 f1 (List.replicate 9 taken)).Presents 0x00007E02 ∧
    decodeRequest 0x00007E02 = .writeFullFrame (frameHeader 0) ∧ (frameHeader 0).ReservedClear ∧
    (frameHeader 0).len = 126 ∧ (asked .initialized 0x00007E02 f1 (List.replicate 9 taken)).session = .initialized ∧
    (asked .initialized 0x00007E02 f1 (List.replicate 9 taken)).okFor 9 :=
  ⟨asked_presents _ _ _ _, by decide, by decide, by decide, rfl, okFor_taken _ _ _ 9 9 (by decide)⟩

/-- The draws when chunk `c` fails and the END attempt after it is rejected too. -/
def failingAt (c : Nat) : List TransportDraw := List.replicate (c + 1) taken ++ [rejected, rejected]

/-- The first and the last chunk. -/
theorem witness_FullFrameFailureKeepsConfirmedChunks :
    decodeRequest 0x00007E02 = .writeFullFrame (frameHeader 0) ∧ (frameHeader 0).ReservedClear ∧
    (frameHeader 0).len = 126 ∧ rejected.outcome = .fail ∧
    ∀ c ∈ [0, 6],
      (asked .initialized 0x00007E02 f1 (failingAt c)).Presents 0x00007E02 ∧
      (asked .initialized 0x00007E02 f1 (failingAt c)).session = .initialized ∧ c < 7 ∧
      (asked .initialized 0x00007E02 f1 (failingAt c)).okFor (c + 1) ∧
      (asked .initialized 0x00007E02 f1 (failingAt c)).draws[c + 1]? = some rejected ∧
      (asked .initialized 0x00007E02 f1 (failingAt c)).draws[c + 2]? = some rejected := by
  refine ⟨by decide, by decide, by decide, rfl, ?_⟩
  intro c hc
  refine ⟨asked_presents _ _ _ _, ?_⟩
  revert c
  unfold State.okFor
  decide +kernel

/-- The `Send`s of a `WRITE_FRAME` against white. -/
def sendsFor (frm : Lanes) : Nat :=
  planSends (writeFramePlan (frameRuns 0x8000 (frm.map laneColor) State.reset.shadow))

/-- R169: no run costs no report, two runs cost 4, the full frame 9. -/
theorem test_sends : sendsFor (spaced 0) = 0 ∧ sendsFor f1 = 4 ∧ sendsFor (spaced 126) = 9 := by decide +kernel

/-- No run at all, a partial update of two runs, and a fallback to the full frame. -/
theorem witness_WriteFrameLeavesNoKeyDirty :
    decodeRequest 0x80007E01 = .writeFrame (frameHeader 0x8000) ∧ (frameHeader 0x8000).ReservedClear ∧
    (frameHeader 0x8000).len = 126 ∧ (frameHeader 0x8000).acc.toNat ≤ 0x8000 ∧
    ∀ frm ∈ [spaced 0, f1, spaced 126],
      (asked .initialized 0x80007E01 frm (List.replicate 9 taken)).Presents 0x80007E01 ∧
      (asked .initialized 0x80007E01 frm (List.replicate 9 taken)).session = .initialized ∧
      (asked .initialized 0x80007E01 frm (List.replicate 9 taken)).okFor (sendsFor frm) := by
  refine ⟨by decide, by decide, by decide, by decide, fun frm hf => ⟨asked_presents _ _ _ _, rfl, ?_⟩⟩
  apply okFor_taken
  rcases List.mem_cons.1 hf with h | hf
  · rw [h, test_sends.1]; decide
  rcases List.mem_pair.1 hf with h | h
  · rw [h, test_sends.2.1]; decide
  · rw [h, test_sends.2.2]

/-- The same hypotheses serve the statement on a repeated request. -/
theorem witness_RepeatedWriteFrameSendsNothing :
    (asked .initialized 0x80007E01 f1 (List.replicate 9 taken)).Presents 0x80007E01 ∧
    (asked .initialized 0x80007E01 f1 (List.replicate 9 taken)).session = .initialized ∧
    (asked .initialized 0x80007E01 f1 (List.replicate 9 taken)).okFor (sendsFor f1) :=
  witness_WriteFrameLeavesNoKeyDirty.2.2.2.2 f1 (List.mem_cons_of_mem _ List.mem_cons_self)

theorem witness_ChunksPartitionTheFrame :
    0 ≤ 126 ∧ 126 ≤ 126 ∧ 5 + 1 < (chunks 126).length ∧ BodyReport.kc 108 18 ∈ chunks 126 := by decide

theorem witness_DirtyIsTheRationalTest : (0x8000 : BitVec 16).toNat ≤ 0x8000 ∧ (0 : BitVec 16).toNat ≤ 0x8000 := by
  decide

theorem witness_CancellingChangesAreClean :
    (0x8000 : BitVec 16).toNat ≤ 0x8000 ∧
    (⟨50, 100, 0⟩ : Color).r.toNat + (100 : Byte).toNat + (0 : Byte).toNat =
      (⟨100, 50, 0⟩ : Color).r.toNat + (50 : Byte).toNat + (0 : Byte).toNat := by decide

theorem witness_NoRunsAtAccuracyZeroOrForTheSameFrame : (0x4000 : BitVec 16).toNat ≤ 0x8000 := by decide

theorem witness_RunsAreBoundedByDirtyKeys : (⟨0, 18⟩ : Run) ∈ runs none (dirtyAt [0, 17, 18]) := by decide +kernel

theorem witness_RunsCoverEachDirtyKeyOnce :
    (dirtyAt [0, 125])[125]? = some true ∧ (dirtyAt [0, 125]).length = 126 := by decide +kernel

/-- Each row of the table, at 0, 1, 6 and 7 runs, with as many answers as any of them needs. -/
theorem witness_WriteFrameReportCounts :
    [spaced 0, spaced 1, spaced 108, spaced 126].map
      (fun frm => (frameRuns 0x8000 (frm.map laneColor) State.reset.shadow).length) = [0, 1, 6, 7] ∧
    decodeRequest 0x80007E01 = .writeFrame (frameHeader 0x8000) ∧ (frameHeader 0x8000).ReservedClear ∧
    (frameHeader 0x8000).len = 126 ∧ (frameHeader 0x8000).acc.toNat ≤ 0x8000 ∧
    ∀ frm n, n ≤ 9 →
      (asked .initialized 0x80007E01 frm (List.replicate 9 taken)).Presents 0x80007E01 ∧
      (asked .initialized 0x80007E01 frm (List.replicate 9 taken)).session = .initialized ∧
      (asked .initialized 0x80007E01 frm (List.replicate 9 taken)).shadow = State.reset.shadow ∧
      (asked .initialized 0x80007E01 frm (List.replicate 9 taken)).okFor n :=
  ⟨witness_WriteFrameDecidesByItsRuns.2.2, by decide, by decide, by decide, by decide,
    fun _ n hn => ⟨asked_presents _ _ _ _, rfl, rfl, okFor_taken _ _ _ n 9 hn⟩⟩

end Sys2Proof.Tests
end

/-! ### A step and the instruction it runs (R5, R106, R110) -/

section
namespace Sys2Proof.Machine

/-- Settles O34: the two actions of `step` that run an instruction are an acceptance (R110) and a transaction of the
report `seq` stands at (R106), and each is `exec` of that instruction alone. -/
theorem stepRunsTheDecodedInstruction : Obligations.StepRunsTheDecodedInstruction :=
  ⟨step_request, step_running⟩

end Sys2Proof.Machine
end

section
/-! SUPPORT. Positions within a plan: the report at each, the order RunPlan takes them in, and the `Send`s left there
(R27, R106). -/

namespace Sys2Proof.Machine

/-! ### The report at a position -/

theorem dueKind_start (plan : Plan) (g : Nat) (hg : g < plan.length) : dueKind plan g .start = some .start := by
  simp [dueKind, hg]

theorem dueKind_body (plan : Plan) (g j : Nat) :
    dueKind plan g (.body j) = (plan.getD g [])[j]?.map .body := by
  cases hg : plan[g]? <;> simp [dueKind, List.getD_eq_getElem?_getD, hg]

theorem dueKind_final (plan : Plan) (g : Nat) (hg : g < plan.length) : dueKind plan g .final = some .stop := by
  simp [dueKind, hg]

theorem dueKind_finalAfterFail (plan : Plan) (g : Nat) (hg : g < plan.length) :
    dueKind plan g .finalAfterFail = some .stop := by
  simp [dueKind, hg]

/-- A body position that names a report lies below the length of its group. -/
theorem dueKind_body_lt (plan : Plan) (g j : Nat) (k : ReportKind) (h : dueKind plan g (.body j) = some k) :
    j < (plan.getD g []).length := by
  rw [dueKind_body, Option.map_eq_some_iff] at h
  obtain ⟨d, hd, -⟩ := h
  exact (List.getElem?_eq_some_iff.1 hd).1

/-- Only a body position names a body report. -/
theorem pos_of_dueKind_body (plan : Plan) (g : Nat) (pos : Pos) (d : BodyReport)
    (h : dueKind plan g pos = some (.body d)) : ∃ j, pos = .body j := by
  have hg := dueKind_group plan g pos _ h
  cases pos with
  | start => rw [dueKind_start plan g hg] at h; cases h
  | body j => exact ⟨j, rfl⟩
  | final => rw [dueKind_final plan g hg] at h; cases h
  | finalAfterFail => rw [dueKind_finalAfterFail plan g hg] at h; cases h

/-- At the START of group `g` the `Send`s of the groups from `g` on are left. -/
theorem sendsLeft_start (plan : Plan) (g : Nat) (hg : g < plan.length) :
    (Sequencer.running plan g .start).sendsLeft = planSends (plan.drop g) :=
  (planSends_drop plan g hg).symm

/-! ### `BODY(j)`, or `END` behind the last body report -/

theorem dueKind_bodyOrFinal_isSome (plan : Plan) (g j : Nat) (hg : g < plan.length) :
    (dueKind plan g (bodyOrFinal plan g j)).isSome = true := by
  unfold bodyOrFinal
  split
  next hj => simp only [dueKind_body, List.getElem?_eq_getElem hj, Option.map_some, Option.isSome_some]
  next => simp only [dueKind_final plan g hg, Option.isSome_some]

theorem sendsLeft_bodyOrFinal (plan : Plan) (g j : Nat) :
    (Sequencer.running plan g (bodyOrFinal plan g j)).sendsLeft =
      ((plan.getD g []).length - j) + 1 + planSends (plan.drop (g + 1)) := by
  unfold bodyOrFinal
  split
  next => rfl
  next hj => simp only [Sequencer.sendsLeft]; omega

theorem rank_bodyOrFinal (plan : Plan) (g j : Nat) (hj : j ≤ (plan.getD g []).length) :
    (bodyOrFinal plan g j).rank (plan.getD g []).length = j + 1 := by
  unfold bodyOrFinal
  split
  next => rfl
  next => simp only [Pos.rank]; omega

/-! ### RunPlan's moves -/

/-- Position `(g', pos')` is reached from `(g, pos)` by a move of RunPlan: later in the same group, or the START of the
next one (R27, R106). -/
def Follows (plan : Plan) (g : Nat) (pos : Pos) (g' : Nat) (pos' : Pos) : Prop :=
  (g' = g ∧ pos.rank (plan.getD g []).length < pos'.rank (plan.getD g []).length) ∨ (g' = g + 1 ∧ pos' = .start)

/-- Everything RunPlan can do with an outcome at a position that names a report: it ends the operation, or it moves on
to a later report of the plan with fewer `Send`s left (R106). -/
theorem State.advance_cases (s : State) (o : SendOutcome) (plan : Plan) (g : Nat) (pos : Pos) (k : ReportKind)
    (hs : s.seq = .running plan g pos) (hk : dueKind plan g pos = some k) :
    (∃ code, s.advance o = s.finishExecute code) ∨
    (∃ g' pos', s.advance o = s.setSeq (.running plan g' pos') ∧ Follows plan g pos g' pos' ∧
      (dueKind plan g' pos').isSome = true ∧
      (Sequencer.running plan g' pos').sendsLeft < (Sequencer.running plan g pos).sendsLeft) := by
  have hg := dueKind_group plan g pos k hk
  match pos, o with
  | .start, .ok =>
    refine .inr ⟨g, bodyOrFinal plan g 0, s.advance_start_ok plan g hs, .inl ⟨rfl, ?_⟩,
      dueKind_bodyOrFinal_isSome plan g 0 hg, ?_⟩
    · rw [rank_bodyOrFinal plan g 0 (Nat.zero_le _)]
      exact Nat.zero_lt_one
    · rw [sendsLeft_bodyOrFinal]
      simp only [Sequencer.sendsLeft, groupSends]
      omega
  | .start, .fail => exact .inl ⟨.transportError, s.advance_start_fail plan g hs⟩
  | .body j, .ok =>
    have hj := dueKind_body_lt plan g j k hk
    refine .inr ⟨g, bodyOrFinal plan g (j + 1), s.advance_body_ok plan g j hs, .inl ⟨rfl, ?_⟩,
      dueKind_bodyOrFinal_isSome plan g (j + 1) hg, ?_⟩
    · rw [rank_bodyOrFinal plan g (j + 1) hj]
      exact Nat.lt_succ_self _
    · rw [sendsLeft_bodyOrFinal]
      simp only [Sequencer.sendsLeft]
      omega
  | .body j, .fail =>
    have hj := dueKind_body_lt plan g j k hk
    refine .inr ⟨g, .finalAfterFail, s.advance_body_fail plan g j hs, .inl ⟨rfl, ?_⟩, ?_, ?_⟩
    · simp only [Pos.rank]
      omega
    · rw [dueKind_finalAfterFail plan g hg, Option.isSome_some]
    · simp only [Sequencer.sendsLeft]
      omega
  | .final, .ok =>
    by_cases hn : g + 1 < plan.length
    · refine .inr ⟨g + 1, .start, ?_, .inr ⟨rfl, rfl⟩, ?_, ?_⟩
      · rw [s.advance_final_ok plan g hs, if_pos hn]
      · rw [dueKind_start plan (g + 1) hn, Option.isSome_some]
      · rw [sendsLeft_start plan (g + 1) hn]
        simp only [Sequencer.sendsLeft]
        omega
    · exact .inl ⟨.ok, by rw [s.advance_final_ok plan g hs, if_neg hn]⟩
  | .final, .fail => exact .inl ⟨.transportError, s.advance_final_fail plan g hs⟩
  | .finalAfterFail, o => exact .inl ⟨.transportError, s.advance_finalAfterFail plan g o hs⟩

/-- Every position of a plan has a `Send` left. -/
theorem sendsLeft_pos (plan : Plan) (g : Nat) (pos : Pos) : 0 < (Sequencer.running plan g pos).sendsLeft := by
  cases pos <;> simp only [Sequencer.sendsLeft, groupSends] <;> omega

/-- A transaction waits with its report in flight, or RunPlan goes on with the outcome `o` from a state `u` that stands
at the same position with the answered report counted (R101, R106). -/
theorem State.transact_waits_or_advances (s : State) (k : ReportKind) :
    (s.draws = [] ∧ s.transact k = s.submit k) ∨
    ∃ (u : State) (o : SendOutcome), s.transact k = u.advance o ∧ u.seq = s.seq ∧ u.busy = s.busy ∧ u.rsp = s.rsp ∧
      u.tx = none ∧ u.sent = countSent o s.sent ∧ u.op = s.op ∧ u.session = s.session := by
  obtain hwait | ⟨d, later, -, -, ht⟩ | ⟨d, later, -, -, ht⟩ := s.transact_cases k
  · exact .inl hwait
  · exact .inr ⟨_, .ok, ht, by simp⟩
  · exact .inr ⟨_, .fail, ht, by simp⟩

end Sys2Proof.Machine
end

section
/-! SUPPORT. The plans of the three operations that send: every descriptor in range, and at most 21 `Send`s (R72, R133,
R140, R159). -/

namespace Sys2Proof.Machine

/-! ### The runs of the scan (R159) -/

/-- A run of 1 to 18 keys that lies within the first `n` keys. -/
def Run.Within (n : Nat) (r : Run) : Prop := 1 ≤ r.length ∧ r.length ≤ 18 ∧ r.offset + r.length ≤ n

/-- The open run of a scan that has come to key `i`: it lies behind `i` and holds at most 18 keys. -/
def OpenWithin (i : Nat) (opened : Option (Nat × Nat)) : Prop :=
  ∀ s e, opened = some (s, e) → s ≤ e ∧ e < i ∧ e - s + 1 ≤ 18

theorem openWithin_none (i : Nat) : OpenWithin i none := fun _ _ h => nomatch h

theorem openWithin_new (i : Nat) (dirty : Bool) : OpenWithin (i + 1) (if dirty then some (i, i) else none) := by
  cases dirty with
  | false => exact openWithin_none _
  | true =>
    rintro s e ⟨⟩
    omega

theorem runOf_within (n i s e : Nat) (h : OpenWithin i (some (s, e))) (hi : i ≤ n) : (runOf s e).Within n := by
  obtain ⟨hse, hei, hlen⟩ := h s e rfl
  refine ⟨?_, ?_, ?_⟩ <;> simp only [runOf] <;> omega

/-- A run that key `i` does not close takes it in without exceeding 18 keys. -/
theorem openWithin_extend (gap : Option Nat) (dirty : Bool) (i s e : Nat) (h : OpenWithin i (some (s, e)))
    (hc : ¬ closesRun gap dirty i s e = true) : OpenWithin (i + 1) (some (s, if dirty then i else e)) := by
  obtain ⟨hse, hei, hlen⟩ := h s e rfl
  have hcap : i - s + 1 ≤ 18 := by
    by_contra hgt
    exact hc (by simp only [closesRun, Config.keysPerPkt_eq, decide_eq_true (Nat.lt_of_not_le hgt), Bool.true_or])
  rintro s' e' ⟨⟩
  cases dirty <;> simp <;> omega

theorem scanRuns_within (gap : Option Nat) (n : Nat) (dirty : List Bool) (i : Nat) (opened : Option (Nat × Nat))
    (ho : OpenWithin i opened) (hn : i + dirty.length ≤ n) : ∀ r ∈ scanRuns gap i opened dirty, r.Within n := by
  induction dirty generalizing i opened with
  | nil =>
    match opened with
    | none => exact fun _ h => absurd h List.not_mem_nil
    | some (s, e) =>
      intro r hr
      rw [List.mem_singleton.1 hr]
      exact runOf_within n i s e ho (by simpa using hn)
  | cons d rest ih =>
    have hrest : i + 1 + rest.length ≤ n := by
      rw [List.length_cons] at hn
      omega
    match opened with
    | none => exact ih (i + 1) _ (openWithin_new i d) hrest
    | some (s, e) =>
      simp only [scanRuns]
      split
      next =>
        intro r hr
        obtain rfl | hr := List.mem_cons.1 hr
        · exact runOf_within n i s e ho (by omega)
        · exact ih (i + 1) _ (openWithin_new i d) hrest r hr
      next hc => exact ih (i + 1) _ (openWithin_extend gap d i s e ho hc) hrest

theorem frameRuns_within (acc : BitVec 16) (tgt shadow : Frame) : ∀ r ∈ frameRuns acc tgt shadow, r.Within 126 :=
  scanRuns_within _ _ _ 0 none (openWithin_none 0) (by simp [dirtyKeys])

/-! ### The plans -/

@[simp] theorem BodyReport.valid_kc (first len : Nat) : (BodyReport.kc first len).valid = keyRangeOk first len := rfl
@[simp] theorem BodyReport.valid_sub (sub arg : Byte) : (BodyReport.sub sub arg).valid = true := rfl
@[simp] theorem BodyReport.valid_profile (p : BitVec 2) : (BodyReport.profile p).valid = decide (p ≠ 0) := rfl

@[simp] theorem planValid_nil : planValid [] = true := rfl

@[simp] theorem planValid_cons (grp : BracketGroup) (plan : Plan) :
    planValid (grp :: plan) = (grp.all BodyReport.valid && planValid plan) := rfl

theorem Run.descriptor_valid (r : Run) (h : r.Within 126) : r.descriptor.valid = true := by
  obtain ⟨hpos, hcap, hend⟩ := h
  rw [Run.descriptor, BodyReport.valid_kc, keyRangeOk, decide_eq_true hpos, decide_eq_true hcap, decide_eq_true hend]
  rfl

theorem planValid_writeFramePlan (rs : List Run) (h : ∀ r ∈ rs, r.Within 126) :
    planValid (writeFramePlan rs) = true := by
  unfold writeFramePlan
  split
  next => rfl
  split
  next => exact planValid_fullFramePlan
  next =>
    simp only [planValid_cons, planValid_nil, Bool.and_true, List.all_eq_true, List.forall_mem_map]
    exact fun r hr => r.descriptor_valid (h r hr)

theorem planSends_writeFramePlan_le (rs : List Run) : planSends (writeFramePlan rs) ≤ 9 := by
  unfold writeFramePlan
  split
  next => simp
  split
  next => exact planSends_fullFramePlan.le
  next hle =>
    rw [Config.runThreshold_eq] at hle
    simp only [planSends_cons, planSends_nil, groupSends, List.length_map]
    omega

/-- INIT's plan is four brackets of one setting each, then the bracket of a full frame (R124). -/
theorem initPlan_eq (c : Params) (p : BitVec 2) :
    initPlan c p = [.profile p] :: [.sub c.subMode c.argModeCustom] :: [.sub c.subPoll c.argPoll] ::
      [.sub c.subDelay c.argDelay] :: fullFramePlan := rfl

theorem planValid_initPlan (c : Params) (p : BitVec 2) (hp : p ≠ 0) : planValid (initPlan c p) = true := by
  simpa [initPlan_eq, planValid_fullFramePlan] using hp

theorem planSends_initPlan (c : Params) (p : BitVec 2) : planSends (initPlan c p) = 21 := by
  simp [initPlan_eq, planSends_fullFramePlan, groupSends]

end Sys2Proof.Machine
end

section
/-! SUPPORT. What an accepted request needs and executes, op by op (R110, R121 to R124, R143, R167, R182, R183). -/

namespace Sys2Proof.Machine

/-- `Check` answers OK only where the session allows the op and its fields are valid (R185). -/
theorem check_eq_ok (op : BitVec 3) (h : Header) (ses : Session) (hc : check op h ses = .ok) :
    sessionAllows op ses = true ∧ fieldsValid op h = true := by
  unfold check at hc
  split at hc
  next => cases hc
  split at hc
  next => cases hc
  split at hc
  next => cases hc
  next hses =>
    split at hc
    next => cases hc
    next hfld => exact ⟨Bool.eq_true_of_not_eq_false hses, Bool.eq_true_of_not_eq_false hfld⟩

theorem sessionAllows_writeFrame (ses : Session) (h : sessionAllows opWriteFrame ses = true) : ses = .initialized := by
  simpa [sessionAllows, opWriteFrame, opSelect, opOpen, opClose, opInit] using h

theorem sessionAllows_writeFullFrame (ses : Session) (h : sessionAllows opWriteFullFrame ses = true) :
    ses = .initialized := by
  simpa [sessionAllows, opWriteFullFrame, opSelect, opOpen, opClose, opInit] using h

/-- An INIT with valid fields names a profile (R182). -/
theorem fieldsValid_init (h : Header) (hf : fieldsValid opInit h = true) : h.prof ≠ 0 := by
  rw [fieldsValid, if_pos rfl, Bool.and_eq_true] at hf
  exact of_decide_eq_true hf.1

/-- Everything an op's `Execute` can do: it loads `tgt` and starts a plan, with the session Opened for INIT; or it ends
the operation at once, with the session moved for SELECT, OPEN and CLOSE. -/
theorem executeOf_cases (op : BitVec 3) (s : State) :
    (op = opInit ∧ executeOf op s =
      ((s.setTgt (initTarget s.uf s.frm)).setSession .opened).startPlan (initPlan Config.params s.prof)) ∨
    (op = opWriteFrame ∧ executeOf op s = (s.setTgt (sampleFrame s.frm)).startPlan
      (writeFramePlan (frameRuns s.acc (sampleFrame s.frm) s.shadow))) ∨
    (op = opWriteFullFrame ∧ executeOf op s = (s.setTgt (sampleFrame s.frm)).startPlan fullFramePlan) ∨
    (∃ ses, executeOf op s = (s.setSession ses).finishExecute .ok) ∨
    executeOf op s = s.endOperation .validationError := by
  unfold executeOf
  split
  next h => exact .inl ⟨h, rfl⟩
  split
  next h => exact .inr (.inl ⟨h, rfl⟩)
  split
  next h => exact .inr (.inr (.inl ⟨h, rfl⟩))
  split
  next => exact .inr (.inr (.inr (.inl ⟨.selected, rfl⟩)))
  split
  next => exact .inr (.inr (.inr (.inl ⟨.opened, rfl⟩)))
  split
  next => exact .inr (.inr (.inr (.inl ⟨.disconnected, rfl⟩)))
  next => exact .inr (.inr (.inr (.inr rfl)))

/-! ### What an acceptance and a transaction do to `shadow` (R22, R106) -/

@[simp] theorem executeOf_shadow (op : BitVec 3) (s : State) : (executeOf op s).shadow = s.shadow := by
  obtain ⟨-, he⟩ | ⟨-, he⟩ | ⟨-, he⟩ | ⟨ses, he⟩ | he := executeOf_cases op s <;> simp [he]

@[simp] theorem accept_executeOf_shadow (op : BitVec 3) (h : Header) (s : State) :
    (accept op h (executeOf op) s).shadow = s.shadow := by
  obtain ⟨-, ha⟩ | ⟨-, -, ha⟩ | ⟨-, -, ha⟩ := accept_cases op h (executeOf op) s <;> simp [ha]

/-- A confirmation changes `shadow` only for a KEYCOLORS report, by copying its keys (R106). -/
theorem State.onConfirm_shadow_cases (s : State) (k : ReportKind) :
    (s.onConfirm k).shadow = s.shadow ∨
    ∃ first len, k = .body (.kc first len) ∧ (s.onConfirm k).shadow = copyKeys first len s.tgt s.shadow := by
  unfold State.onConfirm
  split
  next first len => exact .inr ⟨first, len, rfl, rfl⟩
  all_goals exact .inl rfl

/-- A transaction changes `shadow` only by a KEYCOLORS report that the transport has confirmed (R52). -/
theorem State.transact_shadow_cases (s : State) (k : ReportKind) :
    (s.transact k).shadow = s.shadow ∨
    ∃ first len d later, k = .body (.kc first len) ∧ s.draws = d :: later ∧ d.outcome = .ok ∧
      (s.transact k).shadow = copyKeys first len s.tgt s.shadow := by
  obtain ⟨-, ht⟩ | ⟨d, later, hd, ho, ht⟩ | ⟨d, later, -, -, ht⟩ := s.transact_cases k
  · exact .inl (by simp [ht])
  · obtain hsame | ⟨first, len, hk, hcopy⟩ := State.onConfirm_shadow_cases ((s.submit k).answer .ok later) k
    · exact .inl (by simp [ht, hsame])
    · exact .inr ⟨first, len, d, later, hk, hd, ho, by simp [ht, hcopy]⟩
  · exact .inl (by simp [ht])

end Sys2Proof.Machine
end

section
/-! SUPPORT. The invariant of the machine: the states that meet it by what `seq` is, and the operations that lead to
them (R26 to R30, R51, R58, R131, R133). -/

namespace Sys2Proof.Machine

/-! ### Idle and running states -/

/-- The clause of `State.Inv` on a pending response. -/
def RspShape (rsp : Option RspWord) : Prop :=
  ∀ r, rsp = some r → r.extractLsb' 2 6 = 0 ∧ (r.extractLsb' 8 8).toNat ≤ 21

/-- The clause of `State.Inv` on the session a running operation needs. -/
def State.SessionFitsOp (s : State) : Prop :=
  (s.op = opInit ∧ s.session = .opened) ∨
    ((s.op = opWriteFrame ∨ s.op = opWriteFullFrame) ∧ s.session = .initialized)

theorem rspShape_none : RspShape none := fun _ h => nomatch h

theorem rspShape_rspWord (sent : BitVec 8) (code : Code) (h : sent.toNat ≤ 21) :
    RspShape (some (rspWord sent code)) := by
  rintro r ⟨⟩
  obtain ⟨-, hzero, hsent⟩ := rspWord_fields sent code
  exact ⟨hzero, by rwa [hsent]⟩

/-- An idle block: it is busy exactly while a response is pending, and nothing is in flight. -/
theorem State.inv_idle (s : State) (hseq : s.seq = .idle) (hbusy : s.busy = true ↔ s.rsp ≠ none)
    (hrsp : RspShape s.rsp) (hsent : s.sent.toNat ≤ 21) (htx : s.tx = none) : s.Inv where
  seqValid := by rw [hseq]; rfl
  busyExact := by simp [hseq, hbusy]
  rspIdle := fun _ => hseq
  rspShape := hrsp
  sentBound := by simpa [hseq, Sequencer.sendsLeft] using hsent
  inFlight := fun r h => by rw [htx] at h; cases h
  opSession := fun h => absurd hseq h

/-- A running block with nothing in flight: `seq` names a report of a valid plan. -/
theorem State.inv_running (s : State) (plan : Plan) (g : Nat) (pos : Pos) (hseq : s.seq = .running plan g pos)
    (hdue : (dueKind plan g pos).isSome = true) (hplan : planValid plan = true) (hbusy : s.busy = true)
    (hrsp : s.rsp = none) (hsent : s.sent.toNat + (Sequencer.running plan g pos).sendsLeft ≤ 21) (htx : s.tx = none)
    (hop : s.SessionFitsOp) : s.Inv where
  seqValid := by simp only [hseq, Sequencer.valid, hdue, hplan, Bool.and_self]
  busyExact := by simp [hseq, hbusy]
  rspIdle := fun h => absurd hrsp h
  rspShape := by rw [hrsp]; exact rspShape_none
  sentBound := by rwa [hseq]
  inFlight := fun r h => by rw [htx] at h; cases h
  opSession := fun _ => hop

/-! ### What the invariant says of each kind of state -/

/-- Nothing is in flight in an idle block. -/
theorem State.Inv.tx_of_idle {s : State} (hs : s.Inv) (hseq : s.seq = .idle) : s.tx = none := by
  cases htx : s.tx with
  | none => rfl
  | some r =>
    obtain ⟨k, hdue, -⟩ := hs.inFlight r htx
    simp [State.dueReport, hseq] at hdue

theorem State.Inv.sent_le {s : State} (hs : s.Inv) : s.sent.toNat ≤ 21 :=
  le_trans (Nat.le_add_right _ _) hs.sentBound

theorem State.Inv.planValid_of_running {s : State} (hs : s.Inv) (plan : Plan) (g : Nat) (pos : Pos)
    (hseq : s.seq = .running plan g pos) : planValid plan = true := by
  have hv := hs.seqValid
  simp only [hseq, Sequencer.valid, Bool.and_eq_true] at hv
  exact hv.2

theorem State.Inv.busy_of_running {s : State} (hs : s.Inv) (hseq : s.seq ≠ .idle) : s.busy = true :=
  hs.busyExact.2 (.inl hseq)

/-! ### How an operation ends (R110) -/

theorem State.inv_endOperation (s : State) (code : Code) (hbusy : s.busy = true) (hsent : s.sent.toNat ≤ 21)
    (htx : s.tx = none) : (s.endOperation code).Inv :=
  State.inv_idle _ rfl (by simp [hbusy]) (rspShape_rspWord s.sent code hsent) hsent htx

theorem State.inv_finishExecute (s : State) (code : Code) (hbusy : s.busy = true) (hsent : s.sent.toNat ≤ 21)
    (htx : s.tx = none) : (s.finishExecute code).Inv :=
  State.inv_idle _ (by simp) (by simp [hbusy]) (by simpa using rspShape_rspWord s.sent code hsent)
    (by simpa using hsent) (by simpa using htx)

/-! ### How a plan begins (R106) -/

theorem State.inv_startPlan (s : State) (plan : Plan) (hbusy : s.busy = true) (hrsp : s.rsp = none) (htx : s.tx = none)
    (hsent : s.sent = 0) (hplan : planValid plan = true) (hsends : planSends plan ≤ 21) (hop : s.SessionFitsOp) :
    (s.startPlan plan).Inv := by
  unfold State.startPlan
  split
  next => exact s.inv_finishExecute .ok hbusy (by simp [hsent]) htx
  next hne =>
    have hlen : 0 < plan.length := List.length_pos_iff.2 hne
    refine State.inv_running _ plan 0 .start rfl ?_ hplan hbusy hrsp ?_ htx hop
    · rw [dueKind_start plan 0 hlen, Option.isSome_some]
    · rw [State.setSeq_sent, hsent, sendsLeft_start plan 0 hlen]
      simpa using hsends

/-! ### A transaction (R106) -/

theorem countSent_toNat_le (o : SendOutcome) (sent : BitVec 8) : (countSent o sent).toNat ≤ sent.toNat + 1 := by
  cases o <;> simp only [countSent]
  · bv_omega
  · omega

/-- A report handed over while `seq` stands at it. -/
theorem State.Inv.submit {s : State} (hs : s.Inv) (k : ReportKind) (hdue : s.dueReport = some k) :
    (s.submit k).Inv where
  seqValid := hs.seqValid
  busyExact := hs.busyExact
  rspIdle := hs.rspIdle
  rspShape := hs.rspShape
  sentBound := hs.sentBound
  inFlight := by
    rintro r ⟨⟩
    exact ⟨k, hdue, rfl, rfl⟩
  opSession := hs.opSession

theorem State.Inv.transact {s : State} (hs : s.Inv) (plan : Plan) (g : Nat) (pos : Pos) (k : ReportKind)
    (hrsp : s.rsp = none) (hseq : s.seq = .running plan g pos) (hk : dueKind plan g pos = some k) :
    (s.transact k).Inv := by
  have hne : s.seq ≠ .idle := by simp [hseq]
  obtain ⟨-, ht⟩ | ⟨u, o, ht, hsequ, hbusy, hrspu, htx, hsent, hop, hses⟩ := s.transact_waits_or_advances k <;> rw [ht]
  · exact hs.submit k (by simp [State.dueReport, hseq, hk])
  have hcount : u.sent.toNat ≤ s.sent.toNat + 1 := hsent ▸ countSent_toNat_le o s.sent
  have hbound : s.sent.toNat + (Sequencer.running plan g pos).sendsLeft ≤ 21 := hseq ▸ hs.sentBound
  have hbusyu : u.busy = true := hbusy.trans (hs.busy_of_running hne)
  obtain ⟨code, ha⟩ | ⟨g', pos', ha, -, hdue, hless⟩ := u.advance_cases o plan g pos k (hsequ.trans hseq) hk <;> rw [ha]
  · have hleft := sendsLeft_pos plan g pos
    exact u.inv_finishExecute code hbusyu (by omega) htx
  · have hfits : u.SessionFitsOp := by
      rw [State.SessionFitsOp, hop, hses]
      exact hs.opSession hne
    exact State.inv_running _ plan g' pos' rfl hdue (hs.planValid_of_running plan g pos hseq) hbusyu
      (hrspu.trans hrsp) (by rw [State.setSeq_sent]; omega) htx hfits

/-! ### An acceptance (R110) -/

/-- An accepted request whose check answered OK leads to a state of the invariant, whatever its op is. -/
theorem State.inv_executeOf_latch (s : State) (op : BitVec 3) (h : Header) (hrsp : s.rsp = none) (htx : s.tx = none)
    (hc : check op h s.session = .ok) : (executeOf op (s.latch op h)).Inv := by
  obtain ⟨hses, hfld⟩ := check_eq_ok op h s.session hc
  obtain ⟨rfl, he⟩ | ⟨rfl, he⟩ | ⟨rfl, he⟩ | ⟨ses, he⟩ | he := executeOf_cases op (s.latch op h) <;> rw [he]
  · exact State.inv_startPlan _ _ rfl hrsp htx rfl (planValid_initPlan _ _ (fieldsValid_init h hfld))
      (planSends_initPlan _ _).le (.inl ⟨rfl, rfl⟩)
  · exact State.inv_startPlan _ _ rfl hrsp htx rfl (planValid_writeFramePlan _ (frameRuns_within _ _ _))
      ((planSends_writeFramePlan_le _).trans (by decide))
      (.inr ⟨.inl rfl, sessionAllows_writeFrame s.session hses⟩)
  · exact State.inv_startPlan _ _ rfl hrsp htx rfl planValid_fullFramePlan
      (planSends_fullFramePlan.le.trans (by decide))
      (.inr ⟨.inr rfl, sessionAllows_writeFullFrame s.session hses⟩)
  · exact State.inv_finishExecute _ .ok rfl (by simp) htx
  · exact State.inv_endOperation _ .validationError rfl (by simp) htx

theorem State.Inv.accept {s : State} (hs : s.Inv) (op : BitVec 3) (h : Header) (hseq : s.seq = .idle)
    (hrsp : s.rsp = none) : (accept op h (executeOf op) s).Inv := by
  have htx := hs.tx_of_idle hseq
  obtain ⟨-, ha⟩ | ⟨-, hc, ha⟩ | ⟨-, -, ha⟩ := accept_cases op h (executeOf op) s <;> rw [ha]
  · exact hs
  · exact s.inv_executeOf_latch op h hrsp htx hc
  · exact State.inv_endOperation _ _ rfl (by simp) htx

/-! ### Reset, delivery and the host's move -/

theorem State.inv_resetEvent (s : State) : s.resetEvent.Inv :=
  State.inv_idle _ rfl (by simp [State.reset]) rspShape_none (by simp [State.reset]) rfl

/-- The reset event of the reset state changes nothing. -/
theorem State.resetEvent_reset : State.reset.resetEvent = State.reset := rfl

theorem State.Inv.deliver {s : State} (hs : s.Inv) (r : RspWord) (hseq : s.seq = .idle) : (s.deliver r).Inv :=
  State.inv_idle _ hseq (by simp) rspShape_none hs.sent_le (hs.tx_of_idle hseq)

theorem State.Inv.hostMove {s : State} (hs : s.Inv) (hseq : s.seq = .idle) (hbusy : s.busy = false)
    (hrsp : s.rsp = none) : s.hostMove.Inv :=
  State.inv_idle _ (by simpa using hseq) (by simp [hbusy, hrsp]) (by rw [State.hostMove_rsp, hrsp]; exact rspShape_none)
    (by simpa using hs.sent_le) (by simpa using hs.tx_of_idle hseq)

end Sys2Proof.Machine
end

/-! ### What every step keeps (R22 to R30, R51 to R53, R55, R58, R96, R110, R131, R133, R166) -/

section
namespace Sys2Proof.Machine

/-- Settles O37, by the kinds of a step: each leads from a state of the invariant to one. -/
theorem stepKeepsTheInvariant : Obligations.StepKeepsTheInvariant := by
  intro s t hs h
  obtain ⟨-, rfl⟩ | ⟨r, -, hr, rfl⟩ | ⟨plan, g, pos, k, -, hr, hseq, hk, -, rfl⟩ | ⟨-, -, -, -, rfl⟩ | ⟨w, hp, rfl⟩ |
    ⟨-, hr, hseq, hb, -, rfl⟩ := step_cases s t h
  · exact s.inv_resetEvent
  · exact hs.deliver r (hs.rspIdle (by simp [hr]))
  · exact hs.transact plan g pos k hr hseq hk
  · exact hs
  · exact hs.accept _ _ hp.idle hp.noResponse
  · exact hs.hostMove hseq hb hr

/-- Settles O21: a request's `exec` waits while the block is not ready, and of the steps only an acceptance and the
host's move touch the port, neither of which a busy block makes. -/
theorem requestWaitsWhileBusy : Obligations.RequestWaitsWhileBusy := by
  refine ⟨fun i op h s hi hbusy => ?_, fun s t hbusy h => ?_⟩
  · rw [exec_request i op h s hi, accept_waits op h _ s (s.not_ready_iff.2 hbusy)]
  · obtain ⟨-, rfl⟩ | ⟨r, -, -, rfl⟩ | ⟨_, _, _, k, -, -, -, -, -, rfl⟩ | ⟨-, -, -, -, rfl⟩ | ⟨w, hp, -⟩ |
      ⟨-, -, -, hb, -, -⟩ := step_cases s t h
    · exact ⟨rfl, rfl, rfl⟩
    · exact ⟨rfl, rfl, rfl⟩
    · exact ⟨s.transact_req k, s.transact_host k, s.transact_frm k⟩
    · exact ⟨rfl, rfl, rfl⟩
    · exact absurd (hbusy.symm.trans hp.notBusy) (by decide)
    · exact absurd (hbusy.symm.trans hb) (by decide)

/-- Settles O40: the step of a running operation is the transaction at `seq`, and `advance_cases` lists where it
moves `seq`. -/
theorem sequencerNeverMovesBackwards : Obligations.SequencerNeverMovesBackwards := by
  intro s t plan g pos hseq hl hr h
  have hrun : ∃ k, dueKind plan g pos = some k ∧ t = s.transact k := by
    obtain ⟨hl', -⟩ | ⟨r, -, hr', -⟩ | ⟨plan', g', pos', k, -, -, hs, hk, -, ht⟩ | ⟨-, -, hs, -⟩ | ⟨w, hp, -⟩ |
      ⟨-, -, hs, -⟩ := step_cases s t h
    · simp [hl] at hl'
    · simp [hr] at hr'
    · obtain ⟨rfl, rfl, rfl⟩ := Sequencer.running.inj (hseq.symm.trans hs)
      exact ⟨k, hk, ht⟩
    · simp [hseq] at hs
    · exact absurd (hseq.symm.trans hp.idle) (by simp)
    · simp [hseq] at hs
  obtain ⟨k, hk, rfl⟩ := hrun
  obtain ⟨hd, ht⟩ | ⟨u, o, ht, hu, -⟩ := s.transact_waits_or_advances k <;> rw [ht]
  · exact .inl ⟨rfl, hd⟩
  obtain ⟨code, ha⟩ | ⟨g', pos', ha, ⟨rfl, hrank⟩ | ⟨rfl, rfl⟩, -⟩ :=
    u.advance_cases o plan g pos k (hu.trans hseq) hk <;> rw [ha]
  · exact .inr (.inl (u.finishExecute_seq code))
  · exact .inr (.inr (.inr ⟨pos', rfl, hrank⟩))
  · exact .inr (.inr (.inl rfl))

/-- Settles O41: without a reset an operation's steps are transactions and a delivery, and neither writes `tgt` or a
latch. -/
theorem targetAndLatchesHoldDuringAnOperation : Obligations.TargetAndLatchesHoldDuringAnOperation := by
  intro s t hne hl h
  obtain ⟨hl', -⟩ | ⟨r, -, -, rfl⟩ | ⟨_, _, _, k, -, -, -, -, -, rfl⟩ | ⟨-, -, -, -, rfl⟩ | ⟨w, hp, -⟩ |
    ⟨-, -, hs, -⟩ := step_cases s t h
  · simp [hl] at hl'
  · exact ⟨rfl, rfl, rfl, rfl, rfl⟩
  · exact ⟨s.transact_tgt k, s.transact_op k, s.transact_prof k, s.transact_uf k, s.transact_acc k⟩
  · exact ⟨rfl, rfl, rfl, rfl, rfl⟩
  · exact absurd hp.idle hne
  · exact absurd hs hne

/-- Settles O42: of the kinds of a step only the reset event and a confirmed KEYCOLORS report write `shadow`. -/
theorem shadowChangesOnlyByConfirmedReports : Obligations.ShadowChangesOnlyByConfirmedReports := by
  intro s t h hchg
  obtain ⟨hl, rfl⟩ | ⟨r, -, -, rfl⟩ | ⟨plan, g, pos, k, -, -, hseq, hk, -, rfl⟩ | ⟨-, -, -, -, rfl⟩ | ⟨w, -, rfl⟩ |
    ⟨-, -, -, -, -, rfl⟩ := step_cases s t h
  · exact .inl ⟨hl, fun j hj => keyRead_replicate _ j hj⟩
  · exact absurd rfl hchg
  · obtain hsame | ⟨first, len, d, later, rfl, hd, ho, hcopy⟩ := s.transact_shadow_cases k
    · exact absurd hsame hchg
    · obtain ⟨j, rfl⟩ := pos_of_dueKind_body plan g pos _ hk
      refine .inr ⟨plan, g, j, first, len, d, later, hseq, hk, hd, ho, fun key hkey => ?_⟩
      rw [hcopy, keyRead_copyKeys]
      simp only [hkey, and_true]
  · exact absurd rfl hchg
  · exact absurd (accept_executeOf_shadow _ _ s) hchg
  · exact absurd s.hostMove_shadow hchg

/-- A transaction builds its packet anew: it does not read the old buffer (R96). -/
theorem State.transact_pkt_irrel (s : State) (p : Packet) (k : ReportKind) :
    { s with pkt := p }.transact k = s.transact k := rfl

/-- Settles O33: in range every emitter is one transaction, which starts from the zero packet; out of range it stops. -/
theorem stalePacketBytesHaveNoEffect : Obligations.StalePacketBytesHaveNoEffect := by
  intro s p k
  cases hk : k.toInstr.wellFormed with
  | false => rw [exec_report_outOfRange k _ hk, exec_report_outOfRange k s hk]
  | true => rw [exec_report k _ hk, exec_report k s hk, s.transact_pkt_irrel p k]

/-- Settles O35: the step of a pending response is its delivery. -/
theorem responseIsDeliveredOnce : Obligations.ResponseIsDeliveredOnce := fun s r hl hr => step_deliver s r hl hr

/-- Settles O36: the block is idle after reset, with no response, nothing in flight and an empty trace. -/
theorem resetMeetsTheInvariants : Obligations.ResetMeetsTheInvariants :=
  ⟨State.resetEvent_reset ▸ State.reset.inv_resetEvent,
    fun _ he => (List.not_mem_nil he).elim, fun _ h => nomatch h⟩

end Sys2Proof.Machine
end

/-! ### The packet as the transport receives it (R45, R98, R101) -/

section
namespace Sys2Proof.Machine

/-- The data of a report is the buffer minus its leading byte (R45). -/
theorem reportOf_data (c : Params) (p : Packet) (j : Nat) (hj : j < 63) :
    (reportOf c p).data[j] = pktRead p (j + 1) := by
  simp [reportOf]

/-- `DeviceWrite` leaves the bytes that the checksum covers alone (R98, R101). -/
theorem pktRead_finishPacket (c : Params) (p : Packet) (n : Nat) (hn : 3 ≤ n) :
    pktRead (finishPacket c p) n = pktRead p n := by
  simp only [finishPacket, pktRead_pktWrite16, pktRead_pktWrite]
  rw [if_neg (by omega), if_neg (by omega), if_neg (by omega)]

/-- Placing the checksum does not change it: it reads none of the bytes 0 to 2 (R97, R99). -/
theorem checksum_finishPacket (c : Params) (p : Packet) : checksum (finishPacket c p) = checksum p :=
  checksum_congr _ _ fun n hn _ => pktRead_finishPacket c p n hn

theorem checksum_pktWrite_zero (p : Packet) (v : Byte) : checksum (pktWrite p 0 v) = checksum p :=
  checksum_congr _ _ fun n hn _ => by rw [pktRead_pktWrite, if_neg (by omega)]

theorem pktRead_finishPacket_one (c : Params) (p : Packet) : pktRead (finishPacket c p) 1 = le16Lo (checksum p) := by
  simp [finishPacket, pktRead_pktWrite16, checksum_pktWrite_zero]

theorem pktRead_finishPacket_two (c : Params) (p : Packet) : pktRead (finishPacket c p) 2 = le16Hi (checksum p) := by
  simp [finishPacket, pktRead_pktWrite16, checksum_pktWrite_zero]

/-- Settles O7: a report's data is the packet from byte 1 on, where `DeviceWrite` has placed the checksum in front of
the command byte. -/
theorem transportDataMapping : Obligations.TransportDataMapping := by
  intro c p
  refine ⟨rfl, reportOf_data c p, ?_, ?_, ?_⟩
  · rw [reportOf_data c _ 0 (by decide), pktRead_finishPacket_one, checksum_finishPacket]
  · rw [reportOf_data c _ 1 (by decide), pktRead_finishPacket_two, checksum_finishPacket]
  · rw [reportOf_data c _ 2 (by decide), pktRead_finishPacket c p 3 le_rfl]

end Sys2Proof.Machine
end

/-! ### What a step does to the trace (R47, R51, R206) -/

section
namespace Sys2Proof.Machine

@[simp] theorem executeOf_trace (op : BitVec 3) (s : State) : (executeOf op s).trace = s.trace := by
  obtain ⟨-, he⟩ | ⟨-, he⟩ | ⟨-, he⟩ | ⟨ses, he⟩ | he := executeOf_cases op s <;> simp [he]

@[simp] theorem executeOf_draws (op : BitVec 3) (s : State) : (executeOf op s).draws = s.draws := by
  obtain ⟨-, he⟩ | ⟨-, he⟩ | ⟨-, he⟩ | ⟨ses, he⟩ | he := executeOf_cases op s <;> simp [he]

/-- An acceptance writes no report and takes no answer: its plan begins in a later step (R110). -/
theorem accept_executeOf_trace_draws (op : BitVec 3) (h : Header) (s : State) :
    (accept op h (executeOf op) s).trace = s.trace ∧ (accept op h (executeOf op) s).draws = s.draws := by
  obtain ⟨-, ha⟩ | ⟨-, -, ha⟩ | ⟨-, -, ha⟩ := accept_cases op h (executeOf op) s <;> simp [ha]

/-- A transaction waits and writes nothing, or writes its one report with the outcome of the one draw it takes. -/
theorem State.transact_trace_draws (s : State) (k : ReportKind) :
    ((s.transact k).trace = s.trace ∧ (s.transact k).draws = s.draws) ∨
    ∃ d, (s.transact k).trace = s.trace ++ [sentAs s.tgt k d.outcome] ∧ s.draws = d :: (s.transact k).draws := by
  obtain ⟨-, ht⟩ | ⟨d, later, hd, ho, ht⟩ | ⟨d, later, hd, ho, ht⟩ := s.transact_cases k
  · exact .inl (by simp [ht])
  · exact .inr ⟨d, by simp [ht, ho, sentAs], by simp [ht, hd]⟩
  · exact .inr ⟨d, by simp [ht, ho, sentAs], by simp [ht, hd]⟩

/-- Settles O43: only a transaction takes a draw and writes its report, and only the reset event adds another entry, the
report it abandons. -/
theorem atMostOneReportPerStep : Obligations.AtMostOneReportPerStep := by
  intro s t h
  obtain ⟨hl, rfl⟩ | ⟨r, -, -, rfl⟩ | ⟨_, _, _, k, -, -, -, -, -, rfl⟩ | ⟨-, -, -, -, rfl⟩ | ⟨w, -, rfl⟩ |
    ⟨-, -, -, -, -, rfl⟩ := step_cases s t h
  · cases htx : s.tx with
    | none => exact .inl ⟨by simp [abandonedTrace, htx], rfl⟩
    | some r => exact .inr (.inr ⟨r, by simp [abandonedTrace, htx], rfl, hl⟩)
  · exact .inl ⟨rfl, rfl⟩
  · obtain hwait | ⟨d, htrace, hdraws⟩ := s.transact_trace_draws k
    · exact .inl hwait
    · exact .inr (.inl ⟨d, _, htrace, hdraws⟩)
  · exact .inl ⟨rfl, rfl⟩
  · exact .inl (accept_executeOf_trace_draws _ _ s)
  · exact .inl ⟨s.hostMove_trace, s.hostMove_draws⟩

end Sys2Proof.Machine
end

section
/-! SUPPORT. The host's ports as one update of the state, and the operations of a busy block that pass it through
(R40, R53, R55). -/

namespace Sys2Proof.Machine

/-- What the host drives: the frame port, the request port, and its later requests (R53, R64). -/
def State.setPorts (s : State) (frm : Lanes) (req : Option ReqWord) (host : List HostRequest) : State :=
  { s with frm := frm, req := req, host := host }

variable (s : State) (frm : Lanes) (req : Option ReqWord) (host : List HostRequest)

theorem State.setPorts_finishExecute (code : Code) :
    (s.setPorts frm req host).finishExecute code = (s.finishExecute code).setPorts frm req host := by
  by_cases h : s.op = opInit ∧ code = .ok
  · rw [State.finishExecute, State.finishExecute, if_pos h, if_pos (by exact h)]
    rfl
  · rw [State.finishExecute, State.finishExecute, if_neg h, if_neg (by exact h)]
    rfl

/-- RunPlan's move reads the position and the plan, and no port (R106). -/
theorem State.setPorts_advance (o : SendOutcome) :
    (s.setPorts frm req host).advance o = (s.advance o).setPorts frm req host := by
  have hports : (s.setPorts frm req host).seq = s.seq := rfl
  cases hs : s.seq with
  | idle => rw [s.advance_idle o hs, State.advance_idle _ o (hports.trans hs)]
  | running plan g pos =>
    have hs' := hports.trans hs
    match pos, o with
    | .start, .ok => rw [s.advance_start_ok plan g hs, State.advance_start_ok _ plan g hs']; rfl
    | .start, .fail =>
      rw [s.advance_start_fail plan g hs, State.advance_start_fail _ plan g hs', s.setPorts_finishExecute]
    | .body j, .ok => rw [s.advance_body_ok plan g j hs, State.advance_body_ok _ plan g j hs']; rfl
    | .body j, .fail => rw [s.advance_body_fail plan g j hs, State.advance_body_fail _ plan g j hs']; rfl
    | .final, .ok =>
      rw [s.advance_final_ok plan g hs, State.advance_final_ok _ plan g hs', s.setPorts_finishExecute]
      split <;> rfl
    | .final, .fail =>
      rw [s.advance_final_fail plan g hs, State.advance_final_fail _ plan g hs', s.setPorts_finishExecute]
    | .finalAfterFail, o =>
      rw [s.advance_finalAfterFail plan g o hs, State.advance_finalAfterFail _ plan g o hs', s.setPorts_finishExecute]

theorem State.setPorts_onConfirm (k : ReportKind) :
    (s.setPorts frm req host).onConfirm k = (s.onConfirm k).setPorts frm req host := by
  unfold State.onConfirm
  split <;> rfl

/-- A transaction takes its packet from `tgt` and its outcome from the transport (R55, R101). -/
theorem State.setPorts_transact (k : ReportKind) :
    (s.setPorts frm req host).transact k = (s.transact k).setPorts frm req host := by
  obtain ⟨hd, ht⟩ | ⟨d, later, hd, ho, ht⟩ | ⟨d, later, hd, ho, ht⟩ := s.transact_cases k <;> rw [ht]
  · exact State.transact_waits _ k hd
  · rw [State.transact_ok (s.setPorts frm req host) k d later hd ho, ← State.setPorts_advance,
      ← State.setPorts_onConfirm]
    rfl
  · rw [State.transact_fail (s.setPorts frm req host) k d later hd ho, ← State.setPorts_advance]
    rfl

end Sys2Proof.Machine
end

/-! ### A busy block and the host's ports (R53, R55, R215) -/

section
namespace Sys2Proof.Machine

/-- Settles O44: a busy block resets, delivers, makes the transaction at `seq` or waits, and each of these passes the
ports through unread. -/
theorem busyBlockIgnoresTheHostPorts : Obligations.BusyBlockIgnoresTheHostPorts := by
  intro s frm req host hbusy
  change step (s.setPorts frm req host) = _
  cases hl : s.resetLine with
  | true => rw [step_reset s hl, step_reset (s.setPorts frm req host) hl]; rfl
  | false =>
    cases hr : s.rsp with
    | some r => rw [step_deliver s r hl hr, step_deliver (s.setPorts frm req host) r hl hr]; rfl
    | none =>
      cases hs : s.seq with
      | idle => rw [step_blocked s hl hr hs hbusy, step_blocked (s.setPorts frm req host) hl hr hs hbusy]; rfl
      | running plan g pos =>
        cases hk : dueKind plan g pos with
        | none =>
          rw [step_outsidePlan s plan g pos hl hr hs hk,
            step_outsidePlan (s.setPorts frm req host) plan g pos hl hr hs hk]
        | some k =>
          rw [step_running s plan g pos k hl hr hs hk, step_running (s.setPorts frm req host) plan g pos k hl hr hs hk]
          cases hw : k.toInstr.wellFormed with
          | false => rw [exec_report_outOfRange k s hw, exec_report_outOfRange k _ hw]
          | true => rw [exec_report k s hw, exec_report k _ hw, s.setPorts_transact]; rfl

end Sys2Proof.Machine
end

section
/-! SUPPORT. One bracket under way: what each outcome at a position of the plan makes of the state, and the state after
START and the first body reports, all confirmed (R105, R106, R189). -/

namespace Sys2Proof.Machine

/-! ### Draws and runs -/

theorem State.okFor.mono {s : State} {m n : Nat} (h : s.okFor n) (hmn : m ≤ n) : s.okFor m := by
  obtain ⟨hlen, hok⟩ := h
  exact ⟨hmn.trans hlen, fun d hd => hok d (List.take_subset_take_left _ hmn hd)⟩

/-- The draw behind `n` others that are there is ok where the first `n + 1` are. -/
theorem State.okFor.draws_drop {s : State} {n : Nat} (h : s.okFor (n + 1)) :
    ∃ d, s.draws.drop n = d :: s.draws.drop (n + 1) ∧ d.outcome = .ok := by
  obtain ⟨hlen, hok⟩ := h
  refine ⟨s.draws[n], List.drop_eq_getElem_cons hlen, hok _ ?_⟩
  rw [List.take_succ_eq_append_getElem hlen]
  exact List.mem_append_right _ List.mem_cons_self

theorem countSent_ofNat (o : SendOutcome) (n : Nat) :
    countSent o (BitVec.ofNat 8 n) = BitVec.ofNat 8 (if o = .ok then n + 1 else n) := by
  cases o with
  | ok => exact (BitVec.ofNat_add n 1).symm
  | fail => rfl

theorem State.after_step (s t u : State) (k : Nat) (h : s.after k = .next t) (hstep : step t = .next u) :
    s.after (k + 1) = .next u := by
  rw [State.after_add s t k 1 h, State.after_succ t u 0 hstep, State.after_zero]

/-! ### The step at a position (R106) -/

/-- The block stands at a position of its plan, with nothing that comes before the report there. -/
structure State.RunsAt (s : State) (plan : Plan) (g : Nat) (pos : Pos) : Prop where
  noReset : s.resetLine = false
  noResponse : s.rsp = none
  seq : s.seq = .running plan g pos

/-- The step of a report in range is its transaction. -/
theorem State.RunsAt.step_eq_transact {s : State} {plan : Plan} {g : Nat} {pos : Pos} (h : s.RunsAt plan g pos)
    (k : ReportKind) (hk : dueKind plan g pos = some k) (hw : k.toInstr.wellFormed = true) :
    step s = .next (s.transact k) := by
  rw [step_running s plan g pos k h.noReset h.noResponse h.seq hk, exec_report k s hw]

/-- A confirmed START opens the bracket. -/
theorem State.RunsAt.start_ok {s : State} {plan : Plan} {g : Nat} (h : s.RunsAt plan g .start) (hg : g < plan.length)
    (d : TransportDraw) (later : List TransportDraw) (hd : s.draws = d :: later) (ho : d.outcome = .ok) :
    step s = .next (((s.submit .start).answer .ok later).setSeq (.running plan g (bodyOrFinal plan g 0))) := by
  rw [h.step_eq_transact .start (dueKind_start plan g hg) rfl, s.transact_ok .start d later hd ho,
    State.advance_start_ok _ plan g (by simpa using h.seq)]
  rfl

/-- A confirmed body report takes effect, and `seq` moves on to the next report of the bracket. -/
theorem State.RunsAt.body_ok {s : State} {plan : Plan} {g j : Nat} (h : s.RunsAt plan g (.body j)) (k : ReportKind)
    (hk : dueKind plan g (.body j) = some k) (hw : k.toInstr.wellFormed = true)
    (d : TransportDraw) (later : List TransportDraw) (hd : s.draws = d :: later) (ho : d.outcome = .ok) :
    step s = .next ((((s.submit k).answer .ok later).onConfirm k).setSeq
      (.running plan g (bodyOrFinal plan g (j + 1)))) := by
  rw [h.step_eq_transact k hk hw, s.transact_ok k d later hd ho,
    State.advance_body_ok _ plan g j (by simpa using h.seq)]

/-- A failed body report takes no effect, and the END attempt comes next. -/
theorem State.RunsAt.body_fail {s : State} {plan : Plan} {g j : Nat} (h : s.RunsAt plan g (.body j)) (k : ReportKind)
    (hk : dueKind plan g (.body j) = some k) (hw : k.toInstr.wellFormed = true)
    (d : TransportDraw) (later : List TransportDraw) (hd : s.draws = d :: later) (ho : d.outcome = .fail) :
    step s = .next (((s.submit k).answer .fail later).setSeq (.running plan g .finalAfterFail)) := by
  rw [h.step_eq_transact k hk hw, s.transact_fail k d later hd ho,
    State.advance_body_fail _ plan g j (by simpa using h.seq)]

/-- The END attempt ends the operation by TransportError, whatever its outcome (R189). -/
theorem State.RunsAt.finalAfterFail {s : State} {plan : Plan} {g : Nat} (h : s.RunsAt plan g .finalAfterFail)
    (hg : g < plan.length) (d : TransportDraw) (later : List TransportDraw) (hd : s.draws = d :: later) :
    step s = .next (((s.submit .stop).answer d.outcome later).finishExecute .transportError) := by
  rw [h.step_eq_transact .stop (dueKind_finalAfterFail plan g hg) rfl]
  cases ho : d.outcome with
  | ok =>
    rw [s.transact_ok .stop d later hd ho, State.advance_finalAfterFail _ plan g .ok (by simpa using h.seq)]
    rfl
  | fail =>
    rw [s.transact_fail .stop d later hd ho, State.advance_finalAfterFail _ plan g .fail (by simpa using h.seq)]

/-- A failed body report costs three steps: the report, the one END attempt, and the delivery of the response
(R106, R186, R189). -/
theorem State.RunsAt.after_body_fail {s : State} {plan : Plan} {g j : Nat} (h : s.RunsAt plan g (.body j))
    (k : ReportKind) (hk : dueKind plan g (.body j) = some k) (hw : k.toInstr.wellFormed = true)
    (d e : TransportDraw) (later : List TransportDraw) (hd : s.draws = d :: e :: later) (ho : d.outcome = .fail) :
    ∃ t, s.after 3 = .next t ∧
      t.responses = s.responses ++ [rspWord (countSent e.outcome s.sent) .transportError] ∧
      t.busy = false ∧ t.session = s.session ∧ t.draws = later ∧ t.shadow = s.shadow ∧
      t.trace = s.trace ++ [sentAs s.tgt k .fail, sentAs s.tgt .stop e.outcome] := by
  have hfail := h.body_fail k hk hw d (e :: later) hd ho
  have hend := State.RunsAt.finalAfterFail (plan := plan) (g := g)
    (s := ((s.submit k).answer .fail (e :: later)).setSeq (.running plan g .finalAfterFail))
    ⟨by simpa using h.noReset, by simpa using h.noResponse, rfl⟩ (dueKind_group plan g _ k hk) e later (by simp)
  have hdeliver := step_deliver _ _ (by simpa using h.noReset) (State.finishExecute_rsp
    (((((s.submit k).answer .fail (e :: later)).setSeq (.running plan g .finalAfterFail)).submit .stop).answer
      e.outcome later) .transportError)
  refine ⟨_, (State.after_succ _ _ 2 hfail).trans
    ((State.after_succ _ _ 1 hend).trans (State.after_succ _ _ 0 hdeliver)), ?_⟩
  simp [countSent, sentAs, State.finishExecute_session]

/-! ### A bracket whose first reports are confirmed -/

/-- `shadow` after a confirmed body report (R106). -/
def BodyReport.confirmIn (tgt shadow : Frame) : BodyReport → Frame
  | .kc first len => copyKeys first len tgt shadow
  | .sub _ _ => shadow
  | .profile _ => shadow

theorem State.onConfirm_shadow (s : State) (d : BodyReport) :
    (s.onConfirm (.body d)).shadow = d.confirmIn s.tgt s.shadow := by
  cases d <;> rfl

/-- What the steps since the state `s` have done, where `t` stands behind the confirmed START and the first `j`
confirmed body reports of group `g` (R106). -/
structure State.Confirmed (s : State) (plan : Plan) (g j : Nat) (t : State) : Prop where
  runsAt : t.RunsAt plan g (bodyOrFinal plan g j)
  tgt : t.tgt = s.tgt
  draws : t.draws = s.draws.drop (j + 1)
  sent : t.sent = s.sent + BitVec.ofNat 8 (j + 1)
  shadow : t.shadow = ((plan.getD g []).take j).foldl (BodyReport.confirmIn s.tgt) s.shadow
  trace : t.trace = s.trace ++ sentAs s.tgt .start .ok ::
    ((plan.getD g []).take j).map fun d => sentAs s.tgt (.body d) .ok
  session : t.session = s.session
  responses : t.responses = s.responses

/-- One more body report is confirmed. -/
theorem State.Confirmed.next_body {s t : State} {plan : Plan} {g j : Nat} (h : s.Confirmed plan g j t)
    (hv : planValid plan = true) (hj : j < (plan.getD g []).length) (hok : s.okFor (j + 2)) :
    ∃ u, step t = .next u ∧ s.Confirmed plan g (j + 1) u := by
  obtain ⟨d, hd, ho⟩ := hok.draws_drop
  have hk : dueKind plan g (.body j) = some (.body (plan.getD g [])[j]) := by
    rw [dueKind_body, List.getElem?_eq_getElem hj, Option.map_some]
  have hat : t.RunsAt plan g (.body j) := by simpa only [bodyOrFinal, if_pos hj] using h.runsAt
  refine ⟨_, hat.body_ok _ hk (dueKind_wellFormed plan g _ _ hv hk) d _ (h.draws.trans hd) ho,
    ⟨by simpa using hat.noReset, by simpa using hat.noResponse, rfl⟩, ?_, ?_, ?_, ?_, ?_, ?_, ?_⟩
  · simp [h.tgt]
  · simp
  · simp [countSent, h.sent, BitVec.ofNat_add, BitVec.add_assoc]
  · rw [List.take_succ_eq_append_getElem hj, List.foldl_append, State.setSeq_shadow, State.onConfirm_shadow]
    simp [h.tgt, h.shadow]
  · rw [List.take_succ_eq_append_getElem hj, State.setSeq_trace, State.onConfirm_trace, State.answer_trace,
      State.submit_trace, State.submit_pkt, h.trace, h.tgt, List.map_append, List.append_assoc]
    rfl
  · simp [h.session]
  · simp [h.responses]

/-- With ok draws the block comes behind START and any number of body reports, one report a step. -/
theorem State.RunsAt.after_confirmed {s : State} {plan : Plan} {g : Nat} (h : s.RunsAt plan g .start)
    (hg : g < plan.length) (hv : planValid plan = true) (j : Nat) (hj : j ≤ (plan.getD g []).length)
    (hok : s.okFor (j + 1)) : ∃ t, s.after (j + 1) = .next t ∧ s.Confirmed plan g j t := by
  induction j with
  | zero =>
    obtain ⟨d, hd, ho⟩ := hok.draws_drop
    refine ⟨_, State.after_step s s _ 0 rfl (h.start_ok hg d _ hd ho),
      ⟨by simpa using h.noReset, by simpa using h.noResponse, rfl⟩, ?_, ?_, ?_, ?_, ?_, ?_, ?_⟩ <;>
      simp [countSent, sentAs]
  | succ j ih =>
    obtain ⟨t, ht, hconf⟩ := ih (Nat.le_of_succ_le hj) (hok.mono (Nat.le_succ _))
    obtain ⟨u, hu, hnext⟩ := hconf.next_body hv hj hok
    exact ⟨u, State.after_step s t u _ ht hu, hnext⟩

end Sys2Proof.Machine
end

section
/-! SUPPORT. The chunks of a full frame, one by one: their descriptors, and the keys that the first of them write
(R140, R144). -/

namespace Sys2Proof.Machine

theorem chunks_keyCap_length : (chunks Config.keyCap).length = 7 := by decide

theorem chunks_keyCap_take : ∀ c ≤ 7, (chunks Config.keyCap).take c = (List.range c).map fun i => .kc (18 * i) 18 := by
  decide

theorem bodyOrFinal_fullFramePlan (c : Nat) (hc : c < 7) : bodyOrFinal fullFramePlan 0 c = .body c :=
  if_pos (chunks_keyCap_length ▸ hc : c < (chunks Config.keyCap).length)

theorem dueKind_fullFramePlan_body :
    ∀ c < 7, dueKind fullFramePlan 0 (.body c) = some (.body (.kc (18 * c) 18)) := by
  decide

/-- The first `c` chunks, confirmed in order, copy exactly the keys below `18 * c`. -/
theorem keyRead_foldl_confirmIn_chunks (tgt shadow : Frame) (c k : Nat) (hk : k < 126) :
    keyRead (((List.range c).map fun i => BodyReport.kc (18 * i) 18).foldl (BodyReport.confirmIn tgt) shadow) k =
      if k < 18 * c then keyRead tgt k else keyRead shadow k := by
  induction c with
  | zero => simp
  | succ c ih =>
    rw [List.range_succ, List.map_append, List.foldl_append]
    simp only [List.map_cons, List.map_nil, List.foldl_cons, List.foldl_nil, BodyReport.confirmIn, keyRead_copyKeys, ih]
    by_cases hlow : k < 18 * c
    · rw [if_neg (by omega), if_pos hlow, if_pos (by omega)]
    · by_cases hin : k < 18 * (c + 1)
      · rw [if_pos (by omega), if_pos hin]
      · rw [if_neg (by omega), if_neg hlow, if_neg hin]

/-- `Check` passes a WRITE_FULL_FRAME of 126 keys in session Initialized (R182, R183). -/
theorem check_writeFullFrame (h : Header) (hres : h.ReservedClear) (hlen : h.len = 126) :
    check opWriteFullFrame h .initialized = .ok := by
  obtain ⟨h76, h15⟩ := hres
  simp [check, sessionAllows, fieldsValid, opWriteFullFrame, opReserved011, opReserved111, opSelect, opOpen, opClose,
    opInit, opWriteFrame, h76, h15, hlen]

/-- The acceptance of a WRITE_FULL_FRAME latches its frame and starts the one bracket of its chunks (R143, R144). -/
theorem step_writeFullFrame (s : State) (w : ReqWord) (h : Header) (hp : s.Presents w)
    (hdec : decodeRequest w = .writeFullFrame h) (hres : h.ReservedClear) (hlen : h.len = 126)
    (hses : s.session = .initialized) :
    ∃ t, step s = .next t ∧ t.RunsAt fullFramePlan 0 .start ∧ t.tgt = sampleFrame s.frm ∧ t.shadow = s.shadow ∧
      t.sent = 0 ∧ t.draws = s.draws ∧ t.trace = s.trace ∧ t.session = .initialized ∧ t.responses = s.responses := by
  refine ⟨((s.latch opWriteFullFrame h).setTgt (sampleFrame s.frm)).setSeq (.running fullFramePlan 0 .start), ?_,
    ⟨hp.noReset, hp.noResponse, rfl⟩, ?_⟩
  · rw [step_request s w hp, hdec, exec_request _ opWriteFullFrame h s rfl,
      accept_ok _ _ _ s (s.ready_iff.2 ⟨hp.notBusy, hp.idle⟩) (hses ▸ check_writeFullFrame h hres hlen)]
    rfl
  · simp [hses]

end Sys2Proof.Machine
end

/-! ### A full frame that fails at a chunk (R145) -/

section
namespace Sys2Proof.Machine

/-- Settles O50: the acceptance, then START and the first `c` chunks confirmed, then what every failed body report
costs. -/
theorem fullFrameFailureKeepsConfirmedChunks : Obligations.FullFrameFailureKeepsConfirmedChunks := by
  intro s w h c d e hp hdec hres hlen hses hc hok hd hfail he
  obtain ⟨u, haccept, hstart, hutgt, hushadow, husent, hudraws, hutrace, huses, hursp⟩ :=
    step_writeFullFrame s w h hp hdec hres hlen hses
  obtain ⟨t, ht, hconf⟩ := hstart.after_confirmed (by decide) planValid_fullFramePlan c
    (show c ≤ (chunks Config.keyCap).length from chunks_keyCap_length ▸ hc.le) (by rwa [State.okFor, hudraws])
  have hat : t.RunsAt fullFramePlan 0 (.body c) := by
    simpa only [bodyOrFinal_fullFramePlan c hc] using hconf.runsAt
  have hkc := dueKind_fullFramePlan_body c hc
  have hdraws : t.draws = d :: e :: s.draws.drop (c + 3) := by
    rw [hconf.draws, hudraws, List.drop_eq_getElem?_toList_append, hd,
      List.drop_eq_getElem?_toList_append (i := c + 2), he]
    rfl
  obtain ⟨v, hv, hvrsp, hvbusy, hvses, hvdraws, hvshadow, hvtrace⟩ := hat.after_body_fail _ hkc
    (dueKind_wellFormed _ _ _ _ planValid_fullFramePlan hkc) d e _ hdraws hfail
  have hgroup : fullFramePlan.getD 0 [] = chunks Config.keyCap := rfl
  refine ⟨v, ?_, ?_, hvbusy, hvses.trans (hconf.session.trans huses), hvdraws, ?_, fun k hk => ?_⟩
  · calc s.after (c + 5) = u.after (c + 1 + 3) := State.after_succ s u _ haccept
      _ = t.after 3 := State.after_add u t _ 3 ht
      _ = .next v := hv
  · rw [hvrsp, hconf.responses, hursp, hconf.sent, husent, zero_add, countSent_ofNat]
  · rw [hvtrace, hconf.trace, hconf.tgt, hutgt, hutrace, hgroup, chunks_keyCap_take c hc.le, List.map_map]
    rfl
  · rw [hvshadow, hconf.shadow, hutgt, hushadow, hgroup, chunks_keyCap_take c hc.le,
      keyRead_foldl_confirmIn_chunks _ _ c k hk, keyRead_sampleFrame _ k hk]
    simp [hk]

end Sys2Proof.Machine
end

section
/-! SUPPORT. The request word: encoding and decoding undo each other (R61, R62). -/

namespace Sys2Proof

/-- Every header field stands in its own bits of the word (R61): read bit by bit, each field finds itself. -/
theorem headerOf_encodeRequest (op : BitVec 3) (h : Header) : headerOf (encodeRequest op h) = h := by
  cases h
  simp only [headerOf, encodeRequest, Header.mk.injEq]
  refine ⟨?prof, ?uf, ?rsv76, ?len, ?rsv15, ?acc⟩ <;> (ext i hi; grind)

/-- The op code and the header fields together are the whole word (R61): each field goes on where the one below ends. -/
theorem encodeRequest_headerOf (w : ReqWord) : encodeRequest (w.extractLsb' 0 3) (headerOf w) = w := by
  simp only [headerOf, encodeRequest]
  rw [BitVec.extractLsb'_append_extractLsb'_eq_extractLsb' (by decide),
    BitVec.extractLsb'_append_extractLsb'_eq_extractLsb' (by decide),
    BitVec.extractLsb'_append_extractLsb'_eq_extractLsb' (by decide),
    BitVec.extractLsb'_append_extractLsb'_eq_extractLsb' (by decide),
    BitVec.extractLsb'_append_extractLsb'_eq_extractLsb' (by decide),
    BitVec.extractLsb'_append_extractLsb'_eq_extractLsb' (by decide)]
  exact BitVec.extractLsb'_eq_self

/-- The encoding of a request decodes to it: the op code names the constructor (R62). -/
theorem decodeRequest_encodeRequest (i : Instr) (op : BitVec 3) (h : Header) (hi : i.request? = some (op, h)) :
    decodeRequest (encodeRequest op h) = i := by
  rw [decodeRequest, Laws.EncodedDomain.op_bits, headerOf_encodeRequest]
  cases i <;> cases hi <;> rfl

end Sys2Proof
end

section
/-! SUPPORT. The report as the layout tables give it (R68 to R73), and what the decoder checks of one (log entry 13). -/

namespace Sys2Proof

/-! ### The framing of the layout bytes (R68) -/

/-- A 64-byte buffer led by `REPORT_ID` and the checksum of its bytes 3 to 63 (R68). -/
structure Framed (c : Params) (bytes : List Byte) : Prop where
  length : bytes.length = 64
  id : bytes.getD 0 0 = c.reportId
  cksLo : bytes.getD 1 0 = le16Lo (layoutChecksum bytes)
  cksHi : bytes.getD 2 0 = le16Hi (layoutChecksum bytes)

theorem framed_iff (c : Params) (bytes : List Byte) :
    Framed c bytes ↔ bytes.length = 64 ∧ bytes.getD 0 0 = c.reportId ∧
      bytes.getD 1 0 = le16Lo (layoutChecksum bytes) ∧ bytes.getD 2 0 = le16Hi (layoutChecksum bytes) :=
  ⟨fun h => ⟨h.length, h.id, h.cksLo, h.cksHi⟩, fun ⟨hlength, hid, hlo, hhi⟩ => ⟨hlength, hid, hlo, hhi⟩⟩

/-- The checksum leaves the first three bytes out (R97). -/
theorem layoutChecksum_cons (b0 b1 b2 : Byte) (body : List Byte) :
    layoutChecksum (b0 :: b1 :: b2 :: body) = (body.map BitVec.toNat).sum % 65536 := rfl

theorem encodeReport_framed (c : Params) (tgt : Frame) (i : Instr) : Framed c (encodeReport c tgt i) where
  length := by simp [encodeReport]
  id := rfl
  cksLo := by simp only [encodeReport, layoutChecksum_cons, List.getD_cons_succ, List.getD_cons_zero]
  cksHi := by simp only [encodeReport, layoutChecksum_cons, List.getD_cons_succ, List.getD_cons_zero]

/-- From byte 3 on the report holds the layout bytes (R68). -/
theorem encodeReport_getD (c : Params) (tgt : Frame) (i : Instr) (n : Nat) (h3 : 3 ≤ n) (hn : n < 64) :
    (encodeReport c tgt i).getD n 0 = layoutByte c tgt i n := by
  obtain ⟨j, rfl⟩ := Nat.exists_eq_add_of_le' h3
  have hj : j < 61 := by omega
  simp [encodeReport, hj]

/-- A framed buffer is the report of an instruction exactly when it holds the layout bytes: the framing fixes the rest. -/
theorem eq_encodeReport_iff (c : Params) (tgt : Frame) (i : Instr) (bytes : List Byte) :
    bytes = encodeReport c tgt i ↔
      Framed c bytes ∧ ∀ n, 3 ≤ n → n < 64 → bytes.getD n 0 = layoutByte c tgt i n := by
  constructor
  · rintro rfl
    exact ⟨encodeReport_framed c tgt i, encodeReport_getD c tgt i⟩
  · rintro ⟨⟨hlength, hid, hlo, hhi⟩, hlayout⟩
    match bytes, hlength with
    | b0 :: b1 :: b2 :: body, hlength =>
      have hbody : body = (List.range 61).map fun j => layoutByte c tgt i (j + 3) := by
        refine List.ext_getElem (by simpa using hlength) fun j hj hj' => ?_
        have hlt : j < 61 := by simpa using hj'
        simpa [hj] using hlayout (j + 3) (by omega) (by omega)
      simp only [List.getD_cons_succ, List.getD_cons_zero, layoutChecksum_cons] at hid hlo hhi
      simp only [encodeReport, layoutChecksum_cons, ← hbody, hid, hlo, hhi]

/-! ### The layout bytes (R69 to R73) -/

/-- The frame gives only the colour payload (R72). -/
theorem layoutByte_congr_frame (c : Params) (tgt tgt' : Frame) (i : Instr) (n : Nat) (hp : payloadByte i n = false) :
    layoutByte c tgt i n = layoutByte c tgt' i n := by
  cases i with
  | keycolors first len =>
    have : ¬ (Config.payloadOff ≤ n ∧ n < Config.payloadOff + 3 * len) := by simpa [payloadByte] using hp
    simp only [layoutByte, this, if_false]
  | _ => rfl

/-- Payload byte `r` of key `first + j` (R72). -/
theorem layoutByte_keycolors_payload (c : Params) (tgt : Frame) (first len j r : Nat) (hj : j < len) (hr : r < 3) :
    layoutByte c tgt (.keycolors first len) (8 + 3 * j + r) = (keyRead tgt (first + j)).channel r := by
  have hsub : 8 + 3 * j + r - 8 = r + 3 * j := by omega
  have hpay : 8 ≤ 8 + 3 * j + r ∧ 8 + 3 * j + r < 8 + 3 * len := by omega
  rw [layoutByte, if_neg (by omega), if_neg (by omega), if_neg (by omega), if_neg (by omega), if_pos hpay, hsub,
    Nat.add_mul_div_left _ _ (by decide), Nat.add_mul_mod_self_left, Nat.div_eq_of_lt hr, Nat.mod_eq_of_lt hr,
    Nat.zero_add]

/-- Every payload byte is byte `r` of some key of the report (R72). -/
theorem payloadByte_keycolors (first len n : Nat) (h : payloadByte (.keycolors first len) n = true) :
    ∃ j r, j < len ∧ r < 3 ∧ n = 8 + 3 * j + r := by
  have hn : 8 ≤ n ∧ n < 8 + 3 * len := by simpa [payloadByte] using h
  exact ⟨(n - 8) / 3, (n - 8) % 3, by omega, by omega, by omega⟩

/-- The template lies within the bytes 3 to 63 (R125). -/
theorem profileBase_bounds (c : Params) : 3 ≤ c.profileBase ∧ c.profileBase + 59 ≤ 64 := by
  have hlt := c.profileBaseAbove3.isLt
  exact ⟨Nat.le_add_right 3 _, by rw [Params.profileBase]; omega⟩

/-- The selector byte of a profile packet (R73). -/
theorem layoutByte_setProfile_selector (c : Params) (tgt : Frame) (p : BitVec 2) :
    layoutByte c tgt (.setProfile p) (c.profileBase + c.profileSelPos.val) = BitVec.ofNat 8 (p.toNat - 1) := by
  have hin : ¬ (c.profileBase + c.profileSelPos.val < c.profileBase ∨
      c.profileBase + 59 ≤ c.profileBase + c.profileSelPos.val) := by
    have := c.profileSelPos.isLt
    omega
  rw [layoutByte, if_neg hin, if_pos rfl]

theorem layoutFits_iff (c : Params) (bytes : List Byte) (i : Instr) :
    layoutFits c bytes i = true ↔
      ∀ n, 3 ≤ n → n < 64 →
        payloadByte i n = true ∨ bytes.getD n 0 = layoutByte c (Vector.replicate _ ⟨0, 0, 0⟩) i n := by
  simp only [layoutFits, List.all_eq_true, List.mem_range, Bool.or_eq_true, decide_eq_true_eq]
  refine ⟨fun h n h3 hn => ?_, fun h j hj => h (j + 3) (by omega) (by omega)⟩
  obtain ⟨j, rfl⟩ := Nat.exists_eq_add_of_le' h3
  exact h j (by omega)

/-- The report of an instruction fits its layout, whatever frame its payload comes from. -/
theorem layoutFits_encodeReport (c : Params) (tgt : Frame) (i : Instr) :
    layoutFits c (encodeReport c tgt i) i = true := by
  refine (layoutFits_iff c _ i).2 fun n h3 hn => ?_
  cases hp : payloadByte i n with
  | true => exact .inl rfl
  | false => exact .inr ((encodeReport_getD c tgt i n h3 hn).trans (layoutByte_congr_frame c _ _ i n hp))

/-! ### The decoder -/

/-- All that the decoder asks of a report: its framing, a candidate with operands in range, and the candidate's layout. -/
theorem decodeReport_eq_ok_iff (c : Params) (b : Bool) (bytes : List Byte) (i : Instr) :
    decodeReport c b bytes = .ok i ↔
      Framed c bytes ∧ reportCandidate c b bytes = .ok i ∧ i.wellFormed = true ∧ layoutFits c bytes i = true := by
  rw [framed_iff, decodeReport]
  cases hcand : reportCandidate c b bytes with
  | error e => grind
  | ok j => grind

/-- What the decoder reads is a report, not a request. -/
theorem request?_of_reportCandidate (c : Params) (b : Bool) (bytes : List Byte) (i : Instr)
    (h : reportCandidate c b bytes = .ok i) : i.request? = none := by
  simp only [reportCandidate] at h
  split at h
  · split at h <;> cases h
    rfl
  · repeat' split at h
    all_goals cases h
    all_goals rfl


/-! ### What the operand bytes of a report name (R80, R85) -/

/-- `LE16` of a number of 16 bits, read back (R10, R42). -/
theorem le16_toNat (v : Nat) (hv : v < 65536) : (le16Lo v).toNat + 256 * (le16Hi v).toNat = v := by
  simp only [le16Lo, le16Hi, BitVec.toNat_ofNat]
  omega

/-- With distinct command codes byte 3 tells the kind of every report but the profile packet (R76, R85). -/
theorem reportCandidate_encodeReport (c : Params) (tgt : Frame) (i : Instr) (hc : c.CodesDistinct)
    (hwf : i.wellFormed = true) (hi : i.request? = none) (hp : ∀ p, i ≠ .setProfile p) :
    reportCandidate c false (encodeReport c tgt i) = .ok i := by
  simp only [Params.CodesDistinct, List.nodup_cons, List.mem_cons, List.not_mem_nil, or_false, not_or] at hc
  obtain ⟨⟨hstop, hsub, hkc⟩, ⟨hsub', hkc'⟩, hkc'', -⟩ := hc
  have byte (n : Nat) (h3 : 3 ≤ n) (hn : n < 64) := encodeReport_getD c tgt i n h3 hn
  simp only [reportCandidate, byte 3 (by decide) (by decide), byte 4 (by decide) (by decide),
    byte 5 (by decide) (by decide), byte 6 (by decide) (by decide), byte 8 (by decide) (by decide)]
  cases i with
  | startReport => simp [layoutByte]
  | endReport => simp [layoutByte, Ne.symm hstop]
  | subcommand s a => simp [layoutByte, Ne.symm hsub, Ne.symm hsub']
  | keycolors first len =>
    have hr : (1 ≤ len ∧ len ≤ 18) ∧ first + len ≤ 126 := by simpa [Instr.wellFormed, keyRangeOk] using hwf
    have hfirst : 3 * first / 3 = first := by omega
    have hlen : 3 * len % 256 / 3 = len := by omega
    simp [layoutByte, Ne.symm hkc, Ne.symm hkc', Ne.symm hkc'', le16_toNat (3 * first) (by omega), hfirst, hlen]
  | setProfile p => exact absurd rfl (hp p)
  | _ => cases hi

/-- At its position of the INIT plan the profile packet names its profile in the selector byte (R73, R85). -/
theorem reportCandidate_setProfile (c : Params) (tgt : Frame) (p : BitVec 2) (hp : p ≠ 0) :
    reportCandidate c true (encodeReport c tgt (.setProfile p)) = .ok (.setProfile p) := by
  obtain ⟨hbase, hend⟩ := profileBase_bounds c
  have hsel := c.profileSelPos.isLt
  have hp0 : p.toNat ≠ 0 := fun h => hp (BitVec.eq_of_toNat_eq h)
  have hmod : (p.toNat - 1) % 2 ^ 8 = p.toNat - 1 := Nat.mod_eq_of_lt (by omega)
  have hbyte : (encodeReport c tgt (.setProfile p)).getD (c.profileBase + c.profileSelPos.val) 0 =
      BitVec.ofNat 8 (p.toNat - 1) := by
    rw [encodeReport_getD c tgt _ _ (by omega) (by omega), layoutByte_setProfile_selector]
  simp only [reportCandidate, if_true, hbyte, BitVec.toNat_ofNat, hmod]
  rw [if_pos (by omega), Nat.sub_add_cancel (by omega), BitVec.ofNat_toNat, BitVec.setWidth_eq]

/-- A report decodes to its instruction where its operand bytes name it. -/
theorem decode_encode_of_candidate (c : Params) (b : Bool) (tgt : Frame) (i : Instr) (hwf : i.wellFormed = true)
    (hi : i.request? = none) (hcand : reportCandidate c b (encodeReport c tgt i) = .ok i) :
    decode c b (encode c tgt i) = .ok i := by
  simp only [encode, hi, decode]
  exact (decodeReport_eq_ok_iff c b _ i).2
    ⟨encodeReport_framed c tgt i, hcand, hwf, layoutFits_encodeReport c tgt i⟩

/-! ### The payload of a report (R72) -/

/-- Loading a payload gives key `first + j` the `j`-th colour of the report. -/
theorem keyRead_loadPayload (first len : Nat) (bytes : List Byte) (tgt : Frame) (j : Nat) (hj : j < len)
    (hkey : first + j < 126) :
    keyRead (Machine.loadPayload first len bytes tgt) (first + j) =
      ⟨bytes.getD (8 + 3 * j) 0, bytes.getD (8 + 3 * j + 1) 0, bytes.getD (8 + 3 * j + 2) 0⟩ := by
  induction len with
  | zero => omega
  | succ len ih =>
    rw [Machine.loadPayload, List.range_succ, List.foldl_concat, Machine.keyRead_keyWrite]
    by_cases hlast : j = len
    · subst hlast
      rw [if_pos ⟨rfl, hkey⟩]
    · rw [if_neg (by omega)]
      exact ih (by omega)

/-- Whatever colour payload a buffer holds, some frame has it. -/
theorem exists_frame_of_payload (c : Params) (i : Instr) (bytes : List Byte) (hwf : i.wellFormed = true) :
    ∃ tgt : Frame, ∀ n, payloadByte i n = true → bytes.getD n 0 = layoutByte c tgt i n := by
  cases i with
  | keycolors first len =>
    have hr : (1 ≤ len ∧ len ≤ 18) ∧ first + len ≤ 126 := by simpa [Instr.wellFormed, keyRangeOk] using hwf
    refine ⟨Machine.loadPayload first len bytes (Vector.replicate _ ⟨0, 0, 0⟩), fun n hn => ?_⟩
    obtain ⟨j, r, hj, hr3, rfl⟩ := payloadByte_keycolors first len n hn
    rw [layoutByte_keycolors_payload c _ first len j r hj hr3, keyRead_loadPayload first len bytes _ j hj (by omega)]
    match r, hr3 with
    | 0, _ | 1, _ | 2, _ => rfl
  | _ => exact ⟨Vector.replicate _ ⟨0, 0, 0⟩, fun _ h => nomatch h⟩

end Sys2Proof
end

section
/-! SUPPORT. The packet that BuildPacket and DeviceWrite leave in the buffer, byte by byte (R95, R101). -/

namespace Sys2Proof.Machine

theorem pktRead_pktWriteColor_channel (p : Packet) (i n : Nat) (c : Color) :
    pktRead (pktWriteColor p i c) n =
      if (i ≤ n ∧ n < i + 3) ∧ n < 64 then c.channel (n - i) else pktRead p n := by
  rw [pktRead_pktWriteColor]
  by_cases hin : i ≤ n ∧ n < i + 3
  · obtain ⟨r, rfl⟩ := Nat.exists_eq_add_of_le hin.1
    have hr : r < 3 := by omega
    rw [Nat.add_sub_cancel_left]
    match r, hr with
    | 0, _ | 1, _ | 2, _ => simp [Color.channel]
  · rw [if_neg (by omega), if_neg (by omega), if_neg (by omega), if_neg (by omega)]

/-- The stores of `len` colours from offset 8 on (R72, R95). -/
theorem pktRead_foldl_pktWriteColor (f : Nat → Color) (p : Packet) (len n : Nat) :
    pktRead ((List.range len).foldl (fun p i => pktWriteColor p (8 + 3 * i) (f i)) p) n =
      if (8 ≤ n ∧ n < 8 + 3 * len) ∧ n < 64 then (f ((n - 8) / 3)).channel ((n - 8) % 3) else pktRead p n := by
  induction len with
  | zero => rw [if_neg (by omega)]; rfl
  | succ len ih =>
    rw [List.range_succ, List.foldl_concat, pktRead_pktWriteColor_channel, ih]
    by_cases hlast : 8 + 3 * len ≤ n ∧ n < 8 + 3 * len + 3
    · have hdiv : (n - 8) / 3 = len := by omega
      have hmod : (n - 8) % 3 = n - (8 + 3 * len) := by omega
      rw [hdiv, hmod]
      grind
    · grind

/-- The stores of a template of `len` bytes from offset `base` on (R73, R95). -/
theorem pktRead_foldl_pktWrite (f : Nat → Byte) (p : Packet) (base len n : Nat) :
    pktRead ((List.range len).foldl (fun p i => pktWrite p (base + i) (f i)) p) n =
      if (base ≤ n ∧ n < base + len) ∧ n < 64 then f (n - base) else pktRead p n := by
  induction len with
  | zero => rw [if_neg (by omega)]; rfl
  | succ len ih =>
    rw [List.range_succ, List.foldl_concat, pktRead_pktWrite, ih]
    by_cases hlast : base + len = n
    · subst hlast
      rw [Nat.add_sub_cancel_left]
      grind
    · grind

/-- BuildPacket stores the layout bytes (R68 to R73, R95). -/
theorem pktRead_buildPacket (c : Params) (tgt : Frame) (k : ReportKind) (n : Nat) (hn : n < 64) :
    pktRead (buildPacket c tgt k) n = layoutByte c tgt k.toInstr n := by
  match k with
  | .start | .stop | .body (.sub _ _) =>
    grind [buildPacket, pktRead_pktWrite, pktRead_zeroPacket, ReportKind.toInstr, layoutByte]
  | .body (.kc first len) =>
    rw [buildPacket, pktRead_foldl_pktWriteColor (fun i => keyRead tgt (first + i))]
    grind [pktRead_pktWrite16, pktRead_pktWrite, pktRead_zeroPacket, ReportKind.toInstr, layoutByte]
  | .body (.profile p) =>
    rw [buildPacket, pktRead_pktWrite, pktRead_foldl_pktWrite (fun i => c.profileTemplate.toList.getD i 0)]
    grind [pktRead_zeroPacket, ReportKind.toInstr, layoutByte]

/-- DeviceWrite frames what BuildPacket stored (R68, R98, R101). -/
theorem packetOf_framed (c : Params) (tgt : Frame) (k : ReportKind) : Framed c (packetOf c tgt k).toList where
  length := Vector.length_toList
  id := by
    show pktRead (finishPacket c _) 0 = _
    simp [finishPacket, pktRead_pktWrite16, pktRead_pktWrite]
  cksLo := by
    show pktRead (finishPacket c _) 1 = le16Lo (checksum (finishPacket c _))
    rw [pktRead_finishPacket_one, checksum_finishPacket]
  cksHi := by
    show pktRead (finishPacket c _) 2 = le16Hi (checksum (finishPacket c _))
    rw [pktRead_finishPacket_two, checksum_finishPacket]

/-- The data of a report is the buffer minus its leading byte, as a list (R45). -/
theorem reportOf_data_toList (c : Params) (p : Packet) : (reportOf c p).data.toList = p.toList.drop 1 := by
  refine List.ext_getElem (by simp) fun j hj hj' => ?_
  have hlt : j < 63 := by simpa using hj
  have hbyte : j + 1 < 64 := by omega
  simpa [pktRead, hbyte, Nat.add_comm 1 j] using reportOf_data c p j hlt

/-- The two writings of the layout give the same report (R68 to R73, R95, R101). -/
theorem packetOf_toList (c : Params) (tgt : Frame) (k : ReportKind) :
    (packetOf c tgt k).toList = encodeReport c tgt k.toInstr := by
  refine (eq_encodeReport_iff c tgt _ _).2 ⟨packetOf_framed c tgt k, fun n h3 hn => ?_⟩
  show pktRead (finishPacket c _) n = _
  rw [pktRead_finishPacket c _ n h3, pktRead_buildPacket c tgt k n hn]

/-- The data of a report whose layout is zero behind the bytes `xs`: their sum as LE16, then the layout (R45, R68). -/
theorem reportOf_packetOf_data (c : Params) (tgt : Frame) (k : ReportKind) (xs : List Byte) (m v : Nat)
    (hlayout : ((List.range 61).map fun j => layoutByte c tgt k.toInstr (j + 3)) = xs ++ List.replicate m 0)
    (hsum : (xs.map BitVec.toNat).sum = v) (hv : v < 65536) :
    (reportOf c (packetOf c tgt k)).data.toList = le16Lo v :: le16Hi v :: (xs ++ List.replicate m 0) := by
  have hcks : ((xs ++ List.replicate m 0).map BitVec.toNat).sum % 65536 = v := by
    simpa [hsum] using Nat.mod_eq_of_lt hv
  rw [reportOf_data_toList, packetOf_toList, encodeReport, hlayout]
  simp only [layoutChecksum_cons, List.drop_succ_cons, List.drop_zero, hcks]

/-- A byte is the low half of its own `LE16`, whose high half is 0 (R42). -/
theorem le16Lo_byte (b : Byte) : le16Lo b.toNat = b := by
  rw [le16Lo, Nat.mod_eq_of_lt b.isLt, BitVec.ofNat_toNat, BitVec.setWidth_eq]

theorem le16Hi_byte (b : Byte) : le16Hi b.toNat = 0 := by
  rw [le16Hi, Nat.div_eq_of_lt b.isLt, BitVec.ofNat_eq_ofNat]

/-- The data of a report of one command byte (R69, R70). -/
theorem reportOf_packetOf_data_command (c : Params) (tgt : Frame) (k : ReportKind) (b : Byte)
    (hlayout : ((List.range 61).map fun j => layoutByte c tgt k.toInstr (j + 3)) = b :: List.replicate 60 0) :
    (reportOf c (packetOf c tgt k)).data.toList = [b, 0, b] ++ List.replicate 60 0 := by
  rw [reportOf_packetOf_data c tgt k [b] 60 b.toNat hlayout rfl (by have := b.isLt; omega), le16Lo_byte, le16Hi_byte]
  rfl

end Sys2Proof.Machine
end

section
/-! SUPPORT. Requests that `Check` rejects (R110, R184). -/

namespace Sys2Proof.Machine

/-- A request that `Check` rejects is answered by its code alone: beside the latches, `BUSY` and the request port nothing
else changes (R110, R184). -/
theorem exec_request_rejected (i : Instr) (op : BitVec 3) (h : Header) (s : State) (hi : i.request? = some (op, h))
    (hbusy : s.busy = false) (hseq : s.seq = .idle) (hc : check op h s.session ≠ .ok) :
    exec i s = .next { s with
      busy := true, sent := 0, op := op, prof := h.prof, uf := h.uf, acc := h.acc, req := none
      rsp := some (rspWord 0 (check op h s.session)) } := by
  rw [exec_request i op h s hi, accept_rejected op h _ s (s.ready_iff.2 ⟨hbusy, hseq⟩) hc, State.endOperation, ← hseq]
  rfl

/-- `Check` answers a reserved op code before it looks at anything else (R79, R185). -/
theorem check_reserved (op : BitVec 3) (h : Header) (ses : Session) (hop : op = opReserved011 ∨ op = opReserved111) :
    check op h ses = .validationError := by
  simp [check, hop]

end Sys2Proof.Machine
end

/-! ### Encoding and decoding (R61, R62, R68 to R73, R76, R79, R81, R82, R85, R101) -/

section
namespace Sys2Proof.Machine

/-- Settles O2: a request by the fields of its word, a report by its framing, its operand bytes and its layout. -/
theorem decodeOfEncodeIsIdentity : Obligations.DecodeOfEncodeIsIdentity := by
  intro c tgt i hc hwf
  refine ⟨fun hp => ?_, fun ⟨p, hp⟩ => ?_⟩
  · cases hi : i.request? with
    | none => exact decode_encode_of_candidate c false tgt i hwf hi (reportCandidate_encodeReport c tgt i hc hwf hi hp)
    | some r =>
      simp only [encode, hi, decode]
      rw [decodeRequest_encodeRequest i r.1 r.2 hi]
  · subst hp
    exact decode_encode_of_candidate c true tgt _ hwf rfl
      (reportCandidate_setProfile c tgt p (by simpa [Instr.wellFormed] using hwf))

/-- Settles O3: the op code and the fields of the word, put together again. -/
theorem encodeOfDecodeIsTheWord : Obligations.EncodeOfDecodeIsTheWord := fun w =>
  ⟨_, _, decodeRequest_request? w, encodeRequest_headerOf w⟩

/-- Settles O4: the framing is fixed, the layout bytes are checked, and the payload comes from the frame
that it loads. -/
theorem acceptedReportIsAnEncoding : Obligations.AcceptedReportIsAnEncoding := by
  intro c b bytes i h
  obtain ⟨hframed, hcand, hwf, hfits⟩ := (decodeReport_eq_ok_iff c b bytes i).1 h
  obtain ⟨tgt, hpayload⟩ := exists_frame_of_payload c i bytes hwf
  have hbytes : bytes = encodeReport c tgt i := by
    refine (eq_encodeReport_iff c tgt i bytes).2 ⟨hframed, fun n h3 hn => ?_⟩
    cases hp : payloadByte i n with
    | true => exact hpayload n hp
    | false =>
      have hlayout := ((layoutFits_iff c bytes i).1 hfits n h3 hn).resolve_left (by simp [hp])
      exact hlayout.trans (layoutByte_congr_frame c _ _ i n hp)
  refine ⟨tgt, ?_⟩
  simp only [encode, request?_of_reportCandidate c b bytes i hcand, ← hbytes]

/-- Settles O5: the packet is framed and holds the layout bytes. -/
theorem packetMatchesLayoutTables : Obligations.PacketMatchesLayoutTables := fun c tgt k _ => packetOf_toList c tgt k

/-- Settles O22: an assembled word carries the op code and the header of its line. -/
theorem assembledLinesDecodeToTheirOp : Obligations.AssembledLinesDecodeToTheirOp := by
  refine ⟨by decide, by decide, by decide, fun l => ?_⟩
  rw [AsmLine.word, decodeRequest_request?, Laws.EncodedDomain.op_bits, headerOf_encodeRequest]

/-- Settles O1: each word is evaluated. -/
theorem requestWordsDecodeAsListed : Obligations.RequestWordsDecodeAsListed := by
  unfold Obligations.RequestWordsDecodeAsListed
  decide

/-- Settles O6: a command byte alone, or a sub-command among zeros, under its checksum. -/
theorem controlAndSubcommandReportData : Obligations.ControlAndSubcommandReportData := by
  intro c tgt s a
  refine ⟨reportOf_packetOf_data_command c tgt .start c.cmdStart rfl,
    reportOf_packetOf_data_command c tgt .stop c.cmdStop rfl, ?_⟩
  have hbytes : ([c.cmdSubcommand, s, 0, 0, 0, a].map BitVec.toNat).sum =
      c.cmdSubcommand.toNat + s.toNat + a.toNat := by simp [Nat.add_assoc]
  have hsum : c.cmdSubcommand.toNat + s.toNat + a.toNat < 65536 := by
    have := c.cmdSubcommand.isLt
    have := s.isLt
    have := a.isLt
    omega
  exact reportOf_packetOf_data c tgt (.body (.sub s a)) [c.cmdSubcommand, s, 0, 0, 0, a] 55 _ rfl hbytes hsum

/-- Settles O18: both op codes are rejected requests. -/
theorem reservedOpCodesAnswerValidationError : Obligations.ReservedOpCodesAnswerValidationError := by
  intro h s hbusy hseq
  have rejected (i : Instr) (op : BitVec 3) (hi : i.request? = some (op, h))
      (hop : op = opReserved011 ∨ op = opReserved111) :=
    check_reserved op h s.session hop ▸ exec_request_rejected i op h s hi hbusy hseq
  have hrsp : rspWord 0 .validationError = 0x0002 := by decide
  rw [← hrsp]
  exact ⟨rejected (.reserved011 h) opReserved011 rfl (.inl rfl) nofun,
    rejected (.reserved111 h) opReserved111 rfl (.inr rfl) nofun⟩

/-- Settles O31: the operands are outside the ranges of a well-formed report. -/
theorem outOfRangeReportsStop : Obligations.OutOfRangeReportsStop := by
  intro s
  refine ⟨fun first len hrange => exec_report_outOfRange (.body (.kc first len)) s ?_,
    exec_report_outOfRange (.body (.profile 0)) s rfl⟩
  have : ¬ ((1 ≤ len ∧ len ≤ 18) ∧ first + len ≤ 126) := by omega
  simpa [ReportKind.toInstr, Instr.wellFormed, keyRangeOk] using this

end Sys2Proof.Machine
end

section
/-! SUPPORT. The checksum of a report: its bound, and what the transport receives of it (R45, R97, R100, R109). -/

namespace Sys2Proof.Machine

/-- Bytes sum to at most 255 for each of them (R97). -/
theorem sum_toNat_le (bytes : List Byte) : (bytes.map BitVec.toNat).sum ≤ bytes.length * 255 := by
  have hbyte : ∀ n ∈ bytes.map BitVec.toNat, n ≤ 255 := by
    intro n hn
    obtain ⟨b, -, rfl⟩ := List.mem_map.1 hn
    exact Nat.le_of_lt_succ b.isLt
  simpa using List.sum_le_card_nsmul _ 255 hbyte

theorem checksum_lt (p : Packet) : checksum p < 65536 := Nat.mod_lt _ (by decide)

theorem dataByte_reportOf (c : Params) (p : Packet) (j : Nat) (hj : j < 63) :
    (reportOf c p).dataByte j = (pktRead p (j + 1)).toNat := by
  rw [← reportOf_data c p j hj]
  simp [Report.dataByte, List.getD_eq_getElem?_getD, hj]

/-- The data bytes from the third on are the bytes that the checksum covers (R45, R97). -/
theorem dataBytes_reportOf (c : Params) (p : Packet) :
    ((List.range 61).map fun j => (reportOf c p).dataByte (j + 2)) = (p.toList.drop 3).map BitVec.toNat := by
  refine List.ext_getElem (by simp) fun j hj _ => ?_
  have hlt : j < 61 := by simpa using hj
  have hbyte : 3 + j < 64 := by omega
  rw [List.getElem_map, List.getElem_range, dataByte_reportOf c p (j + 2) (by omega),
    show j + 2 + 1 = 3 + j by omega]
  simp [pktRead, List.getD_eq_getElem?_getD, hbyte]

/-- A finished packet reaches the transport with its checksum in the first two data bytes (R98, R109). -/
theorem checksummed_reportOf_finishPacket (c : Params) (p : Packet) : (reportOf c (finishPacket c p)).Checksummed := by
  rw [Report.Checksummed, dataByte_reportOf _ _ 0 (by decide), dataByte_reportOf _ _ 1 (by decide), dataBytes_reportOf,
    pktRead_finishPacket_one, pktRead_finishPacket_two, le16_toNat _ (checksum_lt p), ← checksum_finishPacket c p]
  rfl

/-- Every report that the block builds has the two properties of `State.reportsGood`. -/
theorem reportOf_packetOf_good (tgt : Frame) (k : ReportKind) :
    (reportOf Config.params (packetOf Config.params tgt k)).Checksummed ∧
      (reportOf Config.params (packetOf Config.params tgt k)).id = Config.params.reportId :=
  ⟨checksummed_reportOf_finishPacket _ _, rfl⟩

/-! ### The steps and the reports sent -/

theorem State.reportsGood.congr {s t : State} (hs : s.reportsGood) (htrace : t.trace = s.trace) (htx : t.tx = s.tx) :
    t.reportsGood := by
  rw [State.reportsGood, htrace, htx]
  exact hs

/-- One more report in the trace, and nothing in flight. -/
theorem State.reportsGood.append {s t : State} (hs : s.reportsGood) (e : SentReport)
    (he : e.report.Checksummed ∧ e.report.id = Config.params.reportId) (htrace : t.trace = s.trace ++ [e])
    (htx : t.tx = none) : t.reportsGood := by
  refine ⟨fun e' he' => ?_, fun r hr => by rw [htx] at hr; cases hr⟩
  rw [htrace, List.mem_append, List.mem_singleton] at he'
  obtain hold | rfl := he'
  · exact hs.1 e' hold
  · exact he

theorem State.reportsGood.resetEvent {s : State} (hs : s.reportsGood) : s.resetEvent.reportsGood := by
  cases htx : s.tx with
  | none => exact hs.congr (by simp [abandonedTrace, htx]) (by rw [htx]; rfl)
  | some r => exact hs.append ⟨r, none⟩ (hs.2 r htx) (by simp [abandonedTrace, htx]) rfl

theorem State.reportsGood.transact {s : State} (hs : s.reportsGood) (k : ReportKind) : (s.transact k).reportsGood := by
  have hgood := reportOf_packetOf_good s.tgt k
  obtain ⟨-, ht⟩ | ⟨d, later, -, -, ht⟩ | ⟨d, later, -, -, ht⟩ := s.transact_cases k <;> rw [ht]
  · obtain ⟨htrace, -⟩ := hs
    exact ⟨by simpa using htrace, by simpa using hgood⟩
  · exact hs.append (sentAs s.tgt k .ok) hgood (by simp [sentAs]) (by simp)
  · exact hs.append (sentAs s.tgt k .fail) hgood (by simp [sentAs]) (by simp)

@[simp] theorem executeOf_tx (op : BitVec 3) (s : State) : (executeOf op s).tx = s.tx := by
  obtain ⟨-, he⟩ | ⟨-, he⟩ | ⟨-, he⟩ | ⟨ses, he⟩ | he := executeOf_cases op s <;> simp [he]

theorem accept_executeOf_tx (op : BitVec 3) (h : Header) (s : State) : (accept op h (executeOf op) s).tx = s.tx := by
  obtain ⟨-, ha⟩ | ⟨-, -, ha⟩ | ⟨-, -, ha⟩ := accept_cases op h (executeOf op) s <;> simp [ha]

end Sys2Proof.Machine
end

section
/-! SUPPORT. Requests that `Check` passes (R110, R182, R183), and what their `Execute` does: the
sessions it answers at once, and the plans it starts (R121 to R124, R142, R161 to R163). -/

namespace Sys2Proof.Machine

/-- `Check` passes a real op code with its reserved bits clear that the session allows and whose fields are valid
(R185). -/
theorem check_eq_ok_of (op : BitVec 3) (h : Header) (ses : Session) (hop : op ≠ opReserved011 ∧ op ≠ opReserved111)
    (hres : h.ReservedClear) (hses : sessionAllows op ses = true) (hfld : fieldsValid op h = true) :
    check op h ses = .ok := by
  obtain ⟨h011, h111⟩ := hop
  obtain ⟨h76, h15⟩ := hres
  simp [check, h011, h111, h76, h15, hses, hfld]

/-- A request that `Check` passes executes with its header latched (R110). -/
theorem exec_request_accepted (i : Instr) (op : BitVec 3) (h : Header) (s : State) (hi : i.request? = some (op, h))
    (hbusy : s.busy = false) (hseq : s.seq = .idle) (hc : check op h s.session = .ok) :
    exec i s = .next (executeOf op (s.latch op h)) := by
  rw [exec_request i op h s hi, accept_ok op h _ s (s.ready_iff.2 ⟨hbusy, hseq⟩) hc]

theorem State.finishExecute_of_ne_opInit (s : State) (code : Code) (hop : s.op ≠ opInit) :
    s.finishExecute code = s.endOperation code := if_neg fun h => hop h.1

theorem State.finishExecute_transportError (s : State) :
    s.finishExecute .transportError = s.endOperation .transportError := if_neg nofun

/-- Behind its last END an operation answers OK, in session Initialized for an INIT (R124). -/
theorem State.finishExecute_ok (s : State) :
    s.finishExecute .ok = (s.setSession (if s.op = opInit then .initialized else s.session)).endOperation .ok := by
  unfold State.finishExecute
  split
  next h => rw [if_pos h.1]
  next h => rw [if_neg fun hop => h ⟨hop, rfl⟩]; rfl

theorem State.startPlan_nil (s : State) : s.startPlan [] = s.finishExecute .ok := rfl

theorem writeFramePlan_nil : writeFramePlan [] = [] := rfl

theorem writeFramePlan_of_le (rs : List Run) (hpos : 1 ≤ rs.length) (hfew : rs.length ≤ 6) :
    writeFramePlan rs = [rs.map Run.descriptor] := by
  rw [writeFramePlan, if_neg (List.length_pos_iff.1 hpos), if_neg (Nat.not_lt.2 hfew)]

theorem writeFramePlan_of_lt (rs : List Run) (hmany : 6 < rs.length) : writeFramePlan rs = fullFramePlan := by
  rw [writeFramePlan, if_neg (List.length_pos_iff.1 (by omega)), if_pos hmany]

theorem rspWord_zero_ok : rspWord 0 .ok = 0x0000 := by decide

/-- A session request that `Check` passes moves the session and answers OK at once (R121 to R123). -/
theorem exec_session_request (i : Instr) (op : BitVec 3) (h : Header) (s : State) (ses : Session)
    (hi : i.request? = some (op, h)) (hbusy : s.busy = false) (hseq : s.seq = .idle)
    (hc : check op h s.session = .ok) (hop : op ≠ opInit)
    (hexec : executeOf op (s.latch op h) = ((s.latch op h).setSession ses).finishExecute .ok) :
    exec i s = .next { s with
      busy := true, sent := 0, op := op, prof := h.prof, uf := h.uf, acc := h.acc, req := none
      session := ses, rsp := some 0x0000 } := by
  rw [exec_request_accepted i op h s hi hbusy hseq hc, hexec, State.finishExecute_of_ne_opInit _ _ hop,
    ← rspWord_zero_ok, State.endOperation, ← hseq]
  rfl

/-- The plan of a full frame, chunk by chunk (R142, R144). -/
theorem fullFramePlan_eq :
    fullFramePlan = [[.kc 0 18, .kc 18 18, .kc 36 18, .kc 54 18, .kc 72 18, .kc 90 18, .kc 108 18]] :=
  congrArg (· :: []) chunks_keyCap

theorem fieldsValid_init_of (h : Header) (hprof : h.prof ≠ 0) (hlen : h.uf = 1 → h.len = 126) :
    fieldsValid opInit h = true := by
  rw [fieldsValid, if_pos rfl, decide_eq_true hprof, Bool.true_and, Bool.or_eq_true, decide_eq_true_eq,
    decide_eq_true_eq]
  obtain huf | huf : h.uf = 0 ∨ h.uf = 1 := by bv_omega
  · exact .inl huf
  · exact .inr (hlen huf)

theorem fieldsValid_writeFrame_of (h : Header) (hlen : h.len = 126) (hacc : h.acc.toNat ≤ 0x8000) :
    fieldsValid opWriteFrame h = true := by
  simp [fieldsValid, opWriteFrame, opInit, hlen, hacc]

end Sys2Proof.Machine
end

section
/-! SUPPORT. An emitter whose report is answered, as a whole next state (R101, R106). -/

namespace Sys2Proof.Machine

/-- The state with the report of kind `k` answered `o`: it is recorded and counted, and nothing is in flight (R101). -/
def State.sentReport (s : State) (k : ReportKind) (o : SendOutcome) (later : List TransportDraw) : State :=
  { s with
    pkt := packetOf Config.params s.tgt k, tx := none, draws := later
    trace := s.trace ++ [sentAs s.tgt k o], sent := countSent o s.sent }

theorem State.answer_submit (s : State) (k : ReportKind) (o : SendOutcome) (later : List TransportDraw) :
    (s.submit k).answer o later = s.sentReport k o later := by
  simp only [State.answer, State.submit, State.sentReport, sentAs]

theorem State.sentReport_seq (s : State) (k : ReportKind) (o : SendOutcome) (later : List TransportDraw) :
    (s.sentReport k o later).seq = s.seq := by
  simp only [State.sentReport]

theorem State.onConfirm_start (s : State) : s.onConfirm .start = s := rfl
theorem State.onConfirm_stop (s : State) : s.onConfirm .stop = s := rfl

theorem countSent_ok (sent : BitVec 8) : countSent .ok sent = sent + 1 := rfl
theorem countSent_fail (sent : BitVec 8) : countSent .fail sent = sent := rfl

theorem countSent_eq_ite (o : SendOutcome) (sent : BitVec 8) :
    countSent o sent = if o = .ok then sent + 1 else sent := by
  cases o <;> rfl

/-- A confirmed report takes effect, and RunPlan goes on. -/
theorem exec_report_ok (s : State) (k : ReportKind) (d : TransportDraw) (later : List TransportDraw)
    (hw : k.toInstr.wellFormed = true) (hd : s.draws = d :: later) (ho : d.outcome = .ok) :
    exec k.toInstr s = .next (((s.sentReport k .ok later).onConfirm k).advance .ok) := by
  rw [exec_report k s hw, s.transact_ok k d later hd ho, State.answer_submit]

/-- A failed report takes no effect, and RunPlan goes on with the failure. -/
theorem exec_report_fail (s : State) (k : ReportKind) (d : TransportDraw) (later : List TransportDraw)
    (hw : k.toInstr.wellFormed = true) (hd : s.draws = d :: later) (ho : d.outcome = .fail) :
    exec k.toInstr s = .next ((s.sentReport k .fail later).advance .fail) := by
  rw [exec_report k s hw, s.transact_fail k d later hd ho, State.answer_submit]

/-- A report that updates no frame: RunPlan goes on with its outcome. -/
theorem exec_report_answered (s : State) (k : ReportKind) (d : TransportDraw) (later : List TransportDraw)
    (hw : k.toInstr.wellFormed = true) (hd : s.draws = d :: later) (hk : ∀ t : State, t.onConfirm k = t) :
    exec k.toInstr s = .next ((s.sentReport k d.outcome later).advance d.outcome) := by
  cases ho : d.outcome with
  | ok => rw [exec_report_ok s k d later hw hd ho, hk]
  | fail => exact exec_report_fail s k d later hw hd ho

/-- A confirmed body report moves `seq` on to the next one, or to END. -/
theorem exec_body_ok (s : State) (b : BodyReport) (d : TransportDraw) (later : List TransportDraw) (plan : Plan)
    (g j : Nat) (hb : b.valid = true) (hd : s.draws = d :: later) (ho : d.outcome = .ok)
    (hseq : s.seq = .running plan g (.body j)) :
    exec (ReportKind.body b).toInstr s = .next { s with
      pkt := packetOf Config.params s.tgt (.body b), tx := none, draws := later
      trace := s.trace ++ [sentAs s.tgt (.body b) .ok], sent := s.sent + 1
      shadow := b.confirmIn s.tgt s.shadow
      seq := .running plan g (if j + 1 < (plan.getD g []).length then .body (j + 1) else .final) } := by
  rw [exec_report_ok s (.body b) d later hb hd ho,
    State.advance_body_ok _ plan g j (by rw [State.onConfirm_seq, State.sentReport_seq, hseq])]
  cases b <;> simp only [State.onConfirm, State.confirmKeys, State.setSeq, State.sentReport, BodyReport.confirmIn,
    countSent_ok, bodyOrFinal]

end Sys2Proof.Machine
end

/-! ### The checksum (R97, R100, R109) -/

section
namespace Sys2Proof.Machine

/-- Settles O8: 61 bytes of at most 255 each stay below the modulus. -/
theorem checksumNeverWraps : Obligations.ChecksumNeverWraps := by
  intro p
  have hsum : ((p.toList.drop 3).map BitVec.toNat).sum ≤ 15555 := by
    simpa using sum_toNat_le (p.toList.drop 3)
  have hcks : checksum p = ((p.toList.drop 3).map BitVec.toNat).sum :=
    Nat.mod_eq_of_lt (by rw [Config.cksumMod_eq]; omega)
  refine ⟨hsum, hcks, ?_⟩
  rw [hcks, le16Hi, BitVec.toNat_ofNat]
  omega

/-- Settles O9: a transaction sends a finished packet, the reset event records the report it abandons, and no other step
touches a report. -/
theorem everyReportCarriesItsChecksum : Obligations.EveryReportCarriesItsChecksum := by
  intro s t hs h
  obtain ⟨-, rfl⟩ | ⟨r, -, -, rfl⟩ | ⟨_, _, _, k, -, -, -, -, -, rfl⟩ | ⟨-, -, -, -, rfl⟩ | ⟨w, -, rfl⟩ |
    ⟨-, -, -, -, -, rfl⟩ := step_cases s t h
  · exact hs.resetEvent
  · exact hs
  · exact hs.transact k
  · exact hs
  · exact hs.congr (accept_executeOf_trace_draws _ _ s).1 (accept_executeOf_tx _ _ s)
  · exact hs.congr s.hostMove_trace s.hostMove_tx

end Sys2Proof.Machine
end

/-! ### Accepted requests (R110, R121 to R124, R131, R143, R144, R161 to R163, R167) -/

section
namespace Sys2Proof.Machine

/-- Settles O12: SELECT is a session request, allowed in Disconnected. -/
theorem selectCompletes : Obligations.SelectCompletes := by
  intro h s hbusy hseq hses hres
  exact exec_session_request _ opSelect h s .selected rfl hbusy hseq
    (check_eq_ok_of _ h _ (by decide) hres (by rw [hses]; decide) rfl) (by decide) rfl

/-- Settles O13: OPEN is a session request, allowed in Selected. -/
theorem openCompletes : Obligations.OpenCompletes := by
  intro h s hbusy hseq hses hres
  exact exec_session_request _ opOpen h s .opened rfl hbusy hseq
    (check_eq_ok_of _ h _ (by decide) hres (by rw [hses]; decide) rfl) (by decide) rfl

/-- Settles O14: CLOSE is a session request, allowed in every session state. -/
theorem closeCompletes : Obligations.CloseCompletes := by
  intro h s hbusy hseq hres
  exact exec_session_request _ opClose h s .disconnected rfl hbusy hseq
    (check_eq_ok_of _ h _ (by decide) hres rfl rfl) (by decide) rfl

/-- Settles O15: `Check` passes the header, and the last bracket of INIT's plan is the chunks of a full frame. -/
theorem initStartsItsFiveBrackets : Obligations.InitStartsItsFiveBrackets := by
  intro h s hbusy hseq hses hres hprof hlen
  have hallowed : sessionAllows opInit s.session = true := by
    obtain hses | hses := hses <;> (rw [hses]; decide)
  rw [exec_request_accepted _ opInit h s rfl hbusy hseq
    (check_eq_ok_of _ h _ (by decide) hres hallowed (fieldsValid_init_of h hprof hlen)), ← chunks_keyCap]
  rfl

/-- Settles O16: `Check` passes the header, and the plan does not read `shadow`. -/
theorem writeFullFrameStartsItsBracket : Obligations.WriteFullFrameStartsItsBracket := by
  intro h s hbusy hseq hses hres hlen
  rw [exec_request_accepted _ opWriteFullFrame h s rfl hbusy hseq (hses ▸ check_writeFullFrame h hres hlen),
    ← fullFramePlan_eq]
  rfl

/-- Settles O17: `Check` passes the header, and the plan is chosen by the number of runs. -/
theorem writeFrameDecidesByItsRuns : Obligations.WriteFrameDecidesByItsRuns := by
  intro h s rs hbusy hseq hses hres hlen hacc hrs
  have hexec : exec (.writeFrame h) s =
      .next (((s.latch opWriteFrame h).setTgt (sampleFrame s.frm)).startPlan (writeFramePlan rs)) := by
    rw [exec_request_accepted _ opWriteFrame h s rfl hbusy hseq
      (check_eq_ok_of _ h _ (by decide) hres (by rw [hses]; decide) (fieldsValid_writeFrame_of h hlen hacc)), hrs]
    rfl
  rw [hexec]
  refine ⟨fun hnone => ?_, fun ⟨hpos, hfew⟩ => ?_, fun hmany => ?_⟩
  · have hop : opWriteFrame ≠ opInit := by decide
    rw [hnone, writeFramePlan_nil, State.startPlan_nil, State.finishExecute_of_ne_opInit _ _ hop, ← rspWord_zero_ok,
      State.endOperation, ← hseq]
    rfl
  · rw [writeFramePlan_of_le rs hpos hfew]
    rfl
  · rw [writeFramePlan_of_lt rs hmany, ← fullFramePlan_eq]
    rfl

end Sys2Proof.Machine
end

/-! ### Reports and their outcomes (R91, R94, R103 to R108, R124, R125, R132, R186, R189) -/

section
namespace Sys2Proof.Machine

/-- Settles O30, by the two inputs of the draw. -/
theorem sendFailsExactlyForTheTwoCauses : Obligations.SendFailsExactlyForTheTwoCauses := by
  rintro ⟨attached, accepts⟩
  cases attached with
  | false => simp [TransportDraw.outcome]
  | true => cases accepts <;> simp [TransportDraw.outcome]

/-- Settles O32: an emitter in range is one transaction, which hands its report over and then waits. -/
theorem reportWaitsForItsAnswer : Obligations.ReportWaitsForItsAnswer := by
  intro s k hd hw
  rw [exec_report k s hw, s.transact_waits k hd]
  rfl

/-- Settles O23: after an ok RunPlan goes from START into the body, if there is one. -/
theorem startConfirmedOpensTheBracket : Obligations.StartConfirmedOpensTheBracket := by
  intro s d later plan g hd ho hseq
  have hpos : (if plan.getD g [] = [] then .final else .body 0) = bodyOrFinal plan g 0 := by
    simp only [bodyOrFinal, List.length_pos_iff, ite_not]
  have hexec := exec_report_ok s .start d later rfl hd ho
  rw [State.onConfirm_start, State.advance_start_ok _ plan g ((s.sentReport_seq _ _ _).trans hseq)] at hexec
  rw [hpos]
  simpa only [ReportKind.toInstr, State.setSeq, State.sentReport, countSent_ok] using hexec

/-- Settles O24: after a failed START RunPlan ends the operation. -/
theorem startFailedSendsNoEnd : Obligations.StartFailedSendsNoEnd := by
  intro s d later plan g hd ho hseq
  have hexec := exec_report_fail s .start d later rfl hd ho
  rw [State.advance_start_fail _ plan g ((s.sentReport_seq _ _ _).trans hseq),
    State.finishExecute_transportError] at hexec
  simpa only [ReportKind.toInstr, State.endOperation, State.sentReport, countSent_fail] using hexec

/-- Settles O25: both are body reports whose confirmation updates no frame. -/
theorem settingReportsConfirmed : Obligations.SettingReportsConfirmed := by
  intro s d later plan g j hd ho hseq
  exact ⟨fun sub arg => exec_body_ok s (.sub sub arg) d later plan g j rfl hd ho hseq,
    fun p hp => exec_body_ok s (.profile p) d later plan g j (decide_eq_true hp) hd ho hseq⟩

/-- Settles O26: the new `shadow` is the old one with the report's keys copied from `tgt`. -/
theorem keycolorsConfirmedUpdatesExactlyItsKeys : Obligations.KeycolorsConfirmedUpdatesExactlyItsKeys := by
  intro s d later plan g j first len hd ho hseq hpos hcap hend
  refine ⟨copyKeys first len s.tgt s.shadow, fun k hk => ?_,
    exec_body_ok s (.kc first len) d later plan g j ?_ hd ho hseq⟩
  · rw [keyRead_copyKeys]
    simp only [hk, and_true]
  · simp [keyRangeOk, hpos, hcap, hend]

/-- Settles O27: after a failed body report RunPlan goes to END_AFTER_FAIL. -/
theorem bodyFailedGoesToEndAttempt : Obligations.BodyFailedGoesToEndAttempt := by
  intro s d later plan g j b hd ho hseq hb
  have hexec := exec_report_fail s (.body b) d later hb hd ho
  rw [State.advance_body_fail _ plan g j ((s.sentReport_seq _ _ _).trans hseq)] at hexec
  simpa only [State.setSeq, State.sentReport, countSent_fail] using hexec

/-- Settles O28: after an ok END RunPlan starts the next group, or ends the operation behind the last one. -/
theorem endConfirmedStartsNextBracketOrAnswersOk : Obligations.EndConfirmedStartsNextBracketOrAnswersOk := by
  intro s d later plan g hd ho hseq
  have hexec := exec_report_ok s .stop d later rfl hd ho
  rw [State.onConfirm_stop, State.advance_final_ok _ plan g ((s.sentReport_seq _ _ _).trans hseq)] at hexec
  refine ⟨fun hnext => ?_, fun hlast => ?_⟩
  · rw [if_pos hnext] at hexec
    simpa only [ReportKind.toInstr, State.setSeq, State.sentReport, countSent_ok] using hexec
  · rw [if_neg (Nat.not_lt.2 hlast), State.finishExecute_ok] at hexec
    simp only [State.endOperation, State.setSession, State.sentReport, countSent_ok] at hexec
    exact hexec

/-- Settles O29: RunPlan ends the operation after a failed END, and after the END attempt without a look at its
outcome. -/
theorem failingBracketAnswersTransportError : Obligations.FailingBracketAnswersTransportError := by
  intro s d later plan g hd
  have hexec := exec_report_answered s .stop d later rfl hd State.onConfirm_stop
  refine ⟨fun ho hseq => ?_, fun hseq => ?_⟩
  · rw [ho, State.advance_final_fail _ plan g ((s.sentReport_seq _ _ _).trans hseq),
      State.finishExecute_transportError] at hexec
    simpa only [ReportKind.toInstr, State.endOperation, State.sentReport, countSent_fail] using hexec
  · rw [State.advance_finalAfterFail _ plan g _ ((s.sentReport_seq _ _ _).trans hseq),
      State.finishExecute_transportError] at hexec
    simpa only [ReportKind.toInstr, State.endOperation, State.sentReport, countSent_eq_ite] using hexec

end Sys2Proof.Machine
end

section
/-! SUPPORT. RunPlan as a procedure beside the machine's steps: what a run of the procedure that returns has sent, and
the steps that send the same (R106). -/

namespace Sys2Proof.Machine

/-! ### What the procedure can do -/

/-- A `Send` that is answered takes the first draw and counts and records its outcome (R101). -/
theorem PlanRun.send_eq_some (c : Params) (tgt : Frame) (k : ReportKind) (a b : PlanRun) (o : SendOutcome)
    (h : a.send c tgt k = some (o, b)) :
    ∃ d later, a.draws = d :: later ∧ d.outcome = o ∧
      b = ⟨later, a.shadow, countSent o a.sent, a.trace ++ [⟨reportOf c (packetOf c tgt k), some o⟩]⟩ := by
  cases hd : a.draws with
  | nil => simp [PlanRun.send, hd] at h
  | cons d later =>
    simp only [PlanRun.send, hd, Option.some.injEq, Prod.mk.injEq] at h
    obtain ⟨rfl, rfl⟩ := h
    exact ⟨d, later, rfl, rfl, rfl⟩

/-- The loop over a body fails at its first report, or goes on behind it. -/
theorem PlanRun.runBody_cons_cases (c : Params) (tgt : Frame) (d : BodyReport) (rest : BracketGroup) (a e : PlanRun)
    (done : Bool) (h : PlanRun.runBody c tgt (d :: rest) a = some (done, e)) :
    (a.send c tgt (.body d) = some (.fail, e) ∧ done = false) ∨
    ∃ b, a.send c tgt (.body d) = some (.ok, b) ∧ PlanRun.runBody c tgt rest (b.confirm tgt d) = some (done, e) := by
  cases hsend : a.send c tgt (.body d) with
  | none => simp [PlanRun.runBody, hsend] at h
  | some r =>
    obtain ⟨o, b⟩ := r
    cases o with
    | ok => exact .inr ⟨b, rfl, by simpa only [PlanRun.runBody, hsend] using h⟩
    | fail =>
      simp only [PlanRun.runBody, hsend, Option.some.injEq, Prod.mk.injEq] at h
      obtain ⟨rfl, rfl⟩ := h
      exact .inl ⟨rfl, rfl⟩

/-- A bracket ends the procedure by its failed START, by the END attempt after a failed body report, or by its failed
END; or the procedure goes on behind it. -/
theorem PlanRun.runPlan_cons_cases (c : Params) (tgt : Frame) (grp : BracketGroup) (rest : Plan) (a e : PlanRun)
    (code : Code) (h : PlanRun.runPlan c tgt (grp :: rest) a = some (code, e)) :
    (a.send c tgt .start = some (.fail, e) ∧ code = .transportError) ∨
    ∃ b, a.send c tgt .start = some (.ok, b) ∧ ∃ done d o f, PlanRun.runBody c tgt grp b = some (done, d) ∧
      d.send c tgt .stop = some (o, f) ∧
      ((done = true ∧ o = .ok ∧ PlanRun.runPlan c tgt rest f = some (code, e)) ∨
        ((done = false ∨ o = .fail) ∧ code = .transportError ∧ f = e)) := by
  cases hstart : a.send c tgt .start with
  | none => simp [PlanRun.runPlan, hstart] at h
  | some r =>
    obtain ⟨_ | _, b⟩ := r
    case fail =>
      simp only [PlanRun.runPlan, hstart, Option.some.injEq, Prod.mk.injEq] at h
      obtain ⟨rfl, rfl⟩ := h
      exact .inl ⟨rfl, rfl⟩
    case ok =>
      refine .inr ⟨b, rfl, ?_⟩
      cases hbody : PlanRun.runBody c tgt grp b with
      | none => simp [PlanRun.runPlan, hstart, hbody] at h
      | some r =>
        obtain ⟨done, d⟩ := r
        cases hstop : d.send c tgt .stop with
        | none => cases done <;> simp [PlanRun.runPlan, hstart, hbody, hstop] at h
        | some r =>
          obtain ⟨o, f⟩ := r
          refine ⟨done, d, o, f, rfl, hstop, ?_⟩
          cases done <;> cases o <;> simpa [PlanRun.runPlan, hstart, hbody, hstop, eq_comm] using h

/-! ### The state as the procedure sees it -/

/-- The part of the state that the procedure reads and writes. -/
def State.planRun (s : State) : PlanRun := ⟨s.draws, s.shadow, s.sent, s.trace⟩

theorem State.planRun_answer_submit (s : State) (k : ReportKind) (o : SendOutcome) (later : List TransportDraw) :
    ((s.submit k).answer o later).planRun =
      ⟨later, s.shadow, countSent o s.sent, s.trace ++ [sentAs s.tgt k o]⟩ := by
  simp [State.planRun, sentAs]

/-- What an answered report does behind its `Send`: a confirmed body report takes effect (R106). -/
def PlanRun.settle (tgt : Frame) (a : PlanRun) : ReportKind → SendOutcome → PlanRun
  | .body d, .ok => a.confirm tgt d
  | .body _, .fail => a
  | .start, _ => a
  | .stop, _ => a

theorem PlanRun.settle_fail (tgt : Frame) (k : ReportKind) (a : PlanRun) : a.settle tgt k .fail = a := by
  cases k <;> rfl

theorem State.planRun_onConfirm (s : State) (k : ReportKind) :
    (s.onConfirm k).planRun = s.planRun.settle s.tgt k .ok := by
  match k with
  | .start | .stop | .body (.kc _ _) | .body (.sub _ _) | .body (.profile _) => rfl

/-- The steps since `s` have brought the block to a position of its plan, and the procedure from `s` has come to `a`. -/
structure State.StandsAt (s : State) (plan : Plan) (g : Nat) (pos : Pos) (a : PlanRun) (t : State) : Prop where
  runsAt : t.RunsAt plan g pos
  planRun : t.planRun = a
  tgt : t.tgt = s.tgt
  op : t.op = s.op
  session : t.session = s.session

/-- The operation that ran in `s` has ended in `t` as a procedure that returns `code` with `a`. -/
structure State.Returned (s : State) (code : Code) (a : PlanRun) (t : State) : Prop where
  seq : t.seq = .idle
  rsp : t.rsp = some (rspWord a.sent code)
  planRun : t.planRun = a
  tgt : t.tgt = s.tgt
  session : t.session = if s.op = opInit ∧ code = .ok then .initialized else s.session

/-! ### One answered report -/

section
variable {s t : State} {plan : Plan} {g : Nat} {pos : Pos} {a b : PlanRun}

/-- A report that is handed over and answered leaves `seq` where it stands. -/
theorem State.StandsAt.answer (h : s.StandsAt plan g pos a t) (k : ReportKind) (d : TransportDraw)
    (later : List TransportDraw) (hd : t.draws = d :: later)
    (hsend : a.send Config.params s.tgt k = some (d.outcome, b)) :
    s.StandsAt plan g pos b ((t.submit k).answer d.outcome later) where
  runsAt := ⟨by simpa using h.runsAt.noReset, by simpa using h.runsAt.noResponse, by simpa using h.runsAt.seq⟩
  planRun := by
    obtain ⟨d', later', hd', -, rfl⟩ := PlanRun.send_eq_some _ _ k a b _ hsend
    obtain ⟨-, rfl⟩ := List.cons.inj (hd.symm.trans ((congrArg PlanRun.draws h.planRun).trans hd'))
    rw [t.planRun_answer_submit, h.tgt, ← h.planRun]
    rfl
  tgt := by simp [h.tgt]
  op := by simp [h.op]
  session := by simp [h.session]

theorem State.StandsAt.onConfirm (h : s.StandsAt plan g pos a t) (k : ReportKind) :
    s.StandsAt plan g pos (a.settle s.tgt k .ok) (t.onConfirm k) where
  runsAt := ⟨by simpa using h.runsAt.noReset, by simpa using h.runsAt.noResponse, by simpa using h.runsAt.seq⟩
  planRun := by rw [t.planRun_onConfirm, h.planRun, h.tgt]
  tgt := by simp [h.tgt]
  op := by simp [h.op]
  session := by simp [h.session]

/-- The step of the report at `seq` is its `Send`, and RunPlan goes on with the outcome. -/
theorem State.StandsAt.step_send (h : s.StandsAt plan g pos a t) (hv : planValid plan = true) (k : ReportKind)
    (hk : dueKind plan g pos = some k) (o : SendOutcome) (hsend : a.send Config.params s.tgt k = some (o, b)) :
    ∃ u, step t = .next (u.advance o) ∧ s.StandsAt plan g pos (b.settle s.tgt k o) u := by
  obtain ⟨d, later, hd, ho, -⟩ := PlanRun.send_eq_some _ _ k a b o hsend
  rw [← h.planRun] at hd
  have hstep := h.runsAt.step_eq_transact k hk (dueKind_wellFormed plan g pos k hv hk)
  have hanswer := h.answer k d later hd (ho ▸ hsend)
  rw [ho] at hanswer
  cases o with
  | ok => exact ⟨_, by rw [hstep, t.transact_ok k d later hd ho], hanswer.onConfirm k⟩
  | fail => exact ⟨_, by rw [hstep, t.transact_fail k d later hd ho], PlanRun.settle_fail s.tgt k b ▸ hanswer⟩

theorem State.StandsAt.setSeq (h : s.StandsAt plan g pos a t) (g' : Nat) (pos' : Pos) :
    s.StandsAt plan g' pos' a (t.setSeq (.running plan g' pos')) :=
  ⟨⟨h.runsAt.noReset, h.runsAt.noResponse, rfl⟩, h.planRun, h.tgt, h.op, h.session⟩

theorem State.StandsAt.finishExecute (h : s.StandsAt plan g pos a t) (code : Code) :
    s.Returned code a (t.finishExecute code) where
  seq := t.finishExecute_seq code
  rsp := by rw [t.finishExecute_rsp, ← h.planRun]; rfl
  planRun := by rw [← h.planRun]; simp [State.planRun]
  tgt := by rw [t.finishExecute_tgt, h.tgt]
  session := by rw [t.finishExecute_session, h.op, h.session]

/-- The END attempt after a failed body report, or a failed END: the operation returns TransportError (R106, R189). -/
theorem State.StandsAt.end_returns_transportError (h : s.StandsAt plan g pos a t) (hv : planValid plan = true)
    (hg : g < plan.length) (o : SendOutcome) (hpos : pos = .finalAfterFail ∨ pos = .final ∧ o = .fail)
    (hsend : a.send Config.params s.tgt .stop = some (o, b)) :
    ∃ u, step t = .next u ∧ s.Returned .transportError b u := by
  have hk : dueKind plan g pos = some .stop := by
    obtain rfl | ⟨rfl, -⟩ := hpos
    · exact dueKind_finalAfterFail plan g hg
    · exact dueKind_final plan g hg
  obtain ⟨u, hstep, hu⟩ := h.step_send hv .stop hk o hsend
  have hadvance : u.advance o = u.finishExecute .transportError := by
    obtain rfl | ⟨rfl, rfl⟩ := hpos
    · exact u.advance_finalAfterFail plan g o hu.runsAt.seq
    · exact u.advance_final_fail plan g hu.runsAt.seq
  exact ⟨_, hstep, hadvance ▸ hu.finishExecute .transportError⟩

end

/-! ### A body, a bracket and a plan -/

theorem getElem?_of_drop_eq_cons {α : Type} {l rest : List α} {x : α} {n : Nat} (h : l.drop n = x :: rest) :
    l[n]? = some x ∧ l.drop (n + 1) = rest :=
  ⟨by rw [← List.head?_drop, h, List.head?_cons], by rw [← List.tail_drop, h, List.tail_cons]⟩

/-- The steps over the rest of a body come to END, or to the END attempt, as the loop does. -/
theorem State.StandsAt.after_runBody {s : State} {plan : Plan} (hv : planValid plan = true) {g : Nat}
    (rest : BracketGroup) (j : Nat) (hrest : (plan.getD g []).drop j = rest) (a e : PlanRun)
    (done : Bool) (t : State) (h : s.StandsAt plan g (bodyOrFinal plan g j) a t)
    (hrun : PlanRun.runBody Config.params s.tgt rest a = some (done, e)) :
    ∃ n u, t.after n = .next u ∧ s.StandsAt plan g (if done then .final else .finalAfterFail) e u := by
  induction rest generalizing j a t with
  | nil =>
    obtain ⟨rfl, rfl⟩ := Prod.mk.inj (Option.some.inj hrun)
    rw [bodyOrFinal, if_neg (Nat.not_lt.2 (List.drop_eq_nil_iff.1 hrest))] at h
    exact ⟨0, t, t.after_zero, h⟩
  | cons d rest ih =>
    obtain ⟨hd, hdrop⟩ := getElem?_of_drop_eq_cons hrest
    have hj : j < (plan.getD g []).length := (List.getElem?_eq_some_iff.1 hd).1
    have hk : dueKind plan g (.body j) = some (.body d) := by rw [dueKind_body, hd, Option.map_some]
    rw [bodyOrFinal, if_pos hj] at h
    obtain ⟨hfail, rfl⟩ | ⟨b, hok, hrest'⟩ := PlanRun.runBody_cons_cases _ _ d rest a e done hrun
    · obtain ⟨u, hstep, hu⟩ := h.step_send hv _ hk .fail hfail
      rw [u.advance_body_fail plan g j hu.runsAt.seq] at hstep
      exact ⟨1, _, State.after_succ t _ 0 hstep, hu.setSeq g .finalAfterFail⟩
    · obtain ⟨u, hstep, hu⟩ := h.step_send hv _ hk .ok hok
      rw [u.advance_body_ok plan g j hu.runsAt.seq] at hstep
      obtain ⟨n, v, hn, hv'⟩ := ih (j + 1) hdrop _ _ (hu.setSeq g (bodyOrFinal plan g (j + 1))) hrest'
      exact ⟨n + 1, v, (State.after_succ t _ n hstep).trans hn, hv'⟩

/-- A confirmed START and the body behind it come to END, or to the END attempt. -/
theorem State.StandsAt.after_body {s t : State} {plan : Plan} (hv : planValid plan = true) {g : Nat}
    (grp : BracketGroup) (hgrp : plan[g]? = some grp) {a b e : PlanRun} {done : Bool} (h : s.StandsAt plan g .start a t)
    (hstart : a.send Config.params s.tgt .start = some (.ok, b))
    (hrun : PlanRun.runBody Config.params s.tgt grp b = some (done, e)) :
    ∃ n u, t.after n = .next u ∧ s.StandsAt plan g (if done then .final else .finalAfterFail) e u := by
  have hg : g < plan.length := (List.getElem?_eq_some_iff.1 hgrp).1
  have hbody : (plan.getD g []).drop 0 = grp := by rw [List.drop_zero, List.getD_eq_getElem?_getD, hgrp]; rfl
  obtain ⟨u, hstep, hu⟩ := h.step_send hv .start (dueKind_start plan g hg) .ok hstart
  rw [u.advance_start_ok plan g hu.runsAt.seq] at hstep
  obtain ⟨n, v, hn, hstands⟩ := State.StandsAt.after_runBody hv grp 0 hbody b e done _
    (hu.setSeq g (bodyOrFinal plan g 0)) hrun
  exact ⟨n + 1, v, (State.after_succ t _ n hstep).trans hn, hstands⟩

/-- The steps from the START of a group on return what the procedure over the rest of the plan returns. -/
theorem State.StandsAt.after_runPlan {s : State} {plan : Plan} (hv : planValid plan = true) (rest : Plan) (g : Nat)
    (hrest : plan.drop g = rest) (hne : rest ≠ []) (a e : PlanRun) (code : Code) (t : State)
    (h : s.StandsAt plan g .start a t) (hrun : PlanRun.runPlan Config.params s.tgt rest a = some (code, e)) :
    ∃ n u, t.after n = .next u ∧ s.Returned code e u := by
  induction rest generalizing g a t with
  | nil => exact absurd rfl hne
  | cons grp rest ih =>
    obtain ⟨hgrp, hdrop⟩ := getElem?_of_drop_eq_cons hrest
    have hg : g < plan.length := (List.getElem?_eq_some_iff.1 hgrp).1
    obtain ⟨hfail, rfl⟩ | ⟨b, hstart, done, d, o, f, hrunBody, hstop, hend⟩ :=
      PlanRun.runPlan_cons_cases _ _ grp rest a e code hrun
    · obtain ⟨u, hstep, hu⟩ := h.step_send hv .start (dueKind_start plan g hg) .fail hfail
      rw [u.advance_start_fail plan g hu.runsAt.seq] at hstep
      exact ⟨1, _, State.after_succ t _ 0 hstep, hu.finishExecute .transportError⟩
    · obtain ⟨n, v, hbody, hstands⟩ := h.after_body hv grp hgrp hstart hrunBody
      obtain ⟨rfl, rfl, hgo⟩ | ⟨hpos, rfl, rfl⟩ := hend
      · obtain ⟨w, hstep', hw⟩ := hstands.step_send hv .stop (dueKind_final plan g hg) .ok hstop
        rw [w.advance_final_ok plan g hw.runsAt.seq] at hstep'
        have hafter := State.after_step t v _ _ hbody hstep'
        by_cases hlast : g + 1 < plan.length
        · rw [if_pos hlast] at hafter
          have hrestne : rest ≠ [] := by rw [← hdrop]; simpa [List.drop_eq_nil_iff] using hlast
          obtain ⟨m, x, hm, hx⟩ := ih (g + 1) hdrop hrestne _ _ (hw.setSeq (g + 1) .start) hgo
          exact ⟨_, x, (State.after_add t _ _ m hafter).trans hm, hx⟩
        · rw [if_neg hlast] at hafter
          obtain rfl : rest = [] := by rw [← hdrop, List.drop_eq_nil_iff]; omega
          obtain ⟨rfl, rfl⟩ := Prod.mk.inj (Option.some.inj hgo)
          exact ⟨_, _, hafter, hw.finishExecute .ok⟩
      · obtain ⟨w, hstep', hw⟩ := hstands.end_returns_transportError hv hg o (by
          cases done with
          | false => exact .inl rfl
          | true => exact .inr ⟨rfl, hpos.resolve_left nofun⟩) hstop
        exact ⟨_, w, State.after_step t v w _ hbody hstep', hw⟩

end Sys2Proof.Machine
end

/-! ### The steps and RunPlan (R106, R110, R124) -/

section
namespace Sys2Proof.Machine

/-- Settles O47, by induction on the plan: each bracket takes the steps that its part of the procedure takes. -/
theorem stepsCarryOutRunPlan : Obligations.StepsCarryOutRunPlan := by
  intro s plan code a hne hv hseq hrsp hl hrun
  obtain ⟨k, t, hk, ht⟩ := State.StandsAt.after_runPlan hv plan 0 rfl hne s.planRun a code s
    ⟨⟨hl, hrsp, hseq⟩, rfl, rfl, rfl, rfl⟩ hrun
  obtain ⟨hidle, hanswer, rfl, htgt, hses⟩ := ht
  exact ⟨k, t, hk, hidle, hanswer, rfl, rfl, rfl, rfl, htgt, hses⟩

end Sys2Proof.Machine
end

section
/-! SUPPORT. The operations that move the session, and the requests they belong to (R120 to R124, R131). -/

namespace Sys2Proof.Machine

/-- The op code of a word and its header name the request that it decodes to (R62). -/
theorem decodeRequest_eq_of_op (w : ReqWord) (i : Instr) (op : BitVec 3) (hop : w.extractLsb' 0 3 = op)
    (hi : i.request? = some (op, headerOf w)) : decodeRequest w = i := by
  rw [← decodeRequest_encodeRequest i op (headerOf w) hi, ← hop, encodeRequest_headerOf]

/-! ### The end and the beginning of an operation -/

/-- An operation's end moves the session only where an INIT ends with OK (R124). -/
theorem State.finishExecute_session_of_ne (s : State) (code : Code) (h : (s.finishExecute code).session ≠ s.session) :
    s.op = opInit ∧ code = .ok ∧ (s.finishExecute code).session = .initialized := by
  rw [State.finishExecute_session] at h ⊢
  split at h
  next hok => exact ⟨hok.1, hok.2, if_pos hok⟩
  next => exact absurd rfl h

/-- A plan that begins leaves the session; only an INIT with nothing to send would move it. -/
theorem State.startPlan_session (s : State) (plan : Plan) (h : s.op ≠ opInit ∨ plan ≠ []) :
    (s.startPlan plan).session = s.session := by
  unfold State.startPlan
  split
  next hnil => rw [State.finishExecute_of_ne_opInit s .ok (h.resolve_right (not_not.2 hnil)), State.endOperation_session]
  next => exact State.setSeq_session s _

/-! ### What an acceptance and a transaction do to the session -/

/-- A frame update and a reserved op leave the session. -/
theorem executeOf_session_eq (op : BitVec 3) (s : State) (hs : s.op = op) (hinit : op ≠ opInit)
    (hselect : op ≠ opSelect) (hopen : op ≠ opOpen) (hclose : op ≠ opClose) : (executeOf op s).session = s.session := by
  have hplan (plan : Plan) : ((s.setTgt (sampleFrame s.frm)).startPlan plan).session = s.session :=
    State.startPlan_session _ plan (.inl (hs ▸ hinit))
  simp only [executeOf, if_neg hinit, if_neg hselect, if_neg hopen, if_neg hclose]
  split
  next => exact hplan _
  split
  next => exact hplan _
  next => exact State.endOperation_session s _

/-- The ops whose `Execute` can move the session, and where they move it (R121 to R124). -/
theorem executeOf_session_cases (op : BitVec 3) (s : State) (hs : s.op = op) :
    (executeOf op s).session = s.session ∨
    (op = opInit ∧ (executeOf op s).session = .opened) ∨
    (op = opSelect ∧ (executeOf op s).session = .selected) ∨
    (op = opOpen ∧ (executeOf op s).session = .opened) ∨
    (op = opClose ∧ (executeOf op s).session = .disconnected) := by
  have hfinish (ses : Session) (hne : op ≠ opInit) : ((s.setSession ses).finishExecute .ok).session = ses := by
    rw [State.finishExecute_of_ne_opInit _ _ (hs ▸ hne)]
    rfl
  by_cases hinit : op = opInit
  · subst hinit
    exact .inr (.inl ⟨rfl, State.startPlan_session ((s.setTgt (initTarget s.uf s.frm)).setSession .opened) _
      (.inr (List.cons_ne_nil _ _))⟩)
  by_cases hselect : op = opSelect
  · subst hselect
    exact .inr (.inr (.inl ⟨rfl, hfinish .selected hinit⟩))
  by_cases hopen : op = opOpen
  · subst hopen
    exact .inr (.inr (.inr (.inl ⟨rfl, hfinish .opened hinit⟩)))
  by_cases hclose : op = opClose
  · subst hclose
    exact .inr (.inr (.inr (.inr ⟨rfl, hfinish .disconnected hinit⟩)))
  exact .inl (executeOf_session_eq op s hs hinit hselect hopen hclose)

/-- An acceptance moves the session only for a request that `Check` passes. -/
theorem accept_executeOf_session_cases (op : BitVec 3) (h : Header) (s : State) :
    (accept op h (executeOf op) s).session = s.session ∨
    check op h s.session = .ok ∧ accept op h (executeOf op) s = executeOf op (s.latch op h) := by
  obtain ⟨-, ha⟩ | ⟨-, hc, ha⟩ | ⟨-, -, ha⟩ := accept_cases op h (executeOf op) s
  · exact .inl (congrArg State.session ha)
  · exact .inr ⟨hc, ha⟩
  · exact .inl (by rw [ha, State.endOperation_session, State.latch_session])

/-- A transaction moves the session only where it is the last one of an INIT, which then answers OK (R124). -/
theorem State.transact_session_of_ne (s : State) (k : ReportKind) (plan : Plan) (g : Nat) (pos : Pos)
    (hseq : s.seq = .running plan g pos) (hk : dueKind plan g pos = some k) (h : (s.transact k).session ≠ s.session) :
    s.op = opInit ∧ (s.transact k).session = .initialized ∧ (s.transact k).seq = .idle ∧
      (s.transact k).rsp = some (rspWord (s.transact k).sent .ok) := by
  obtain ⟨-, ht⟩ | ⟨u, o, ht, hsequ, -, -, -, -, hop, hses⟩ := s.transact_waits_or_advances k <;> rw [ht] at h ⊢
  · exact absurd rfl h
  obtain ⟨code, ha⟩ | ⟨g', pos', ha, -⟩ := u.advance_cases o plan g pos k (hsequ.trans hseq) hk <;>
    rw [ha, ← hses] at h
  · obtain ⟨hinit, rfl, hmoved⟩ := u.finishExecute_session_of_ne code h
    rw [ha, State.finishExecute_sent]
    exact ⟨hop ▸ hinit, hmoved, u.finishExecute_seq .ok, u.finishExecute_rsp .ok⟩
  · exact absurd (u.setSeq_session _) h

/-! ### What `Check` asks of the session (R183) -/

theorem sessionAllows_select (ses : Session) (h : sessionAllows opSelect ses = true) : ses = .disconnected := by
  simpa [sessionAllows] using h

theorem sessionAllows_open (ses : Session) (h : sessionAllows opOpen ses = true) : ses = .selected := by
  simpa [sessionAllows, opOpen, opSelect] using h

theorem sessionAllows_init (ses : Session) (h : sessionAllows opInit ses = true) :
    ses = .opened ∨ ses = .initialized := by
  simpa [sessionAllows, opInit, opSelect, opOpen, opClose] using h

theorem State.Inv.opened_of_opInit {s : State} (hs : s.Inv) (hseq : s.seq ≠ .idle) (hop : s.op = opInit) :
    s.session = .opened := by
  obtain ⟨-, hses⟩ | ⟨hframe | hframe, -⟩ := hs.opSession hseq
  · exact hses
  · exact absurd (hop.symm.trans hframe) (by decide)
  · exact absurd (hop.symm.trans hframe) (by decide)

end Sys2Proof.Machine
end

/-! ### The edges of the session (R120, R131) -/

section
namespace Sys2Proof.Machine

/-- Settles O39: a reset, the acceptance of a session request or of an INIT, and the last report of an INIT are the
steps that write the session; `Check` and the invariant give the state before. -/
theorem sessionMovesOnlyAlongItsEdges : Obligations.SessionMovesOnlyAlongItsEdges := by
  intro s t hs h hchg
  obtain ⟨hl, rfl⟩ | ⟨r, -, -, rfl⟩ | ⟨plan, g, pos, k, -, -, hseq, hk, -, rfl⟩ | ⟨-, -, -, -, rfl⟩ | ⟨w, hp, rfl⟩ |
    ⟨-, -, -, -, -, rfl⟩ := step_cases s t h
  · exact .inl ⟨hl, rfl⟩
  · exact absurd rfl hchg
  · obtain ⟨hop, hmoved, hidle, hrsp⟩ := s.transact_session_of_ne k plan g pos hseq hk hchg
    have hne : s.seq ≠ .idle := by simp [hseq]
    exact .inr (.inr (.inr (.inr (.inr ⟨hop, hs.opened_of_opInit hne hop, hmoved, hne, hidle, hrsp⟩))))
  · exact absurd rfl hchg
  · obtain hsame | ⟨hc, ha⟩ := accept_executeOf_session_cases (w.extractLsb' 0 3) (headerOf w) s
    · exact absurd hsame hchg
    rw [ha] at hchg ⊢
    obtain ⟨hses, -⟩ := check_eq_ok _ _ _ hc
    have hdec (i : Instr) := decodeRequest_eq_of_op w i _ rfl
    obtain hsame | ⟨hop, hmoved⟩ | ⟨hop, hmoved⟩ | ⟨hop, hmoved⟩ | ⟨hop, hmoved⟩ :=
      executeOf_session_cases (w.extractLsb' 0 3) (s.latch (w.extractLsb' 0 3) (headerOf w)) rfl
    · exact absurd hsame hchg
    · rw [hop] at hc hses
      rw [hmoved] at hchg
      exact .inr (.inr (.inr (.inl ⟨w, headerOf w, hp, hdec _ (by rw [hop]; rfl),
        (sessionAllows_init _ hses).resolve_left (Ne.symm hchg), hmoved, hc⟩)))
    · rw [hop] at hses
      exact .inr (.inl ⟨w, headerOf w, hp, hdec _ (by rw [hop]; rfl), sessionAllows_select _ hses, hmoved⟩)
    · rw [hop] at hses
      exact .inr (.inr (.inl ⟨w, headerOf w, hp, hdec _ (by rw [hop]; rfl), sessionAllows_open _ hses, hmoved⟩))
    · exact .inr (.inr (.inr (.inr (.inl ⟨w, headerOf w, hp, hdec _ (by rw [hop]; rfl), hmoved⟩))))
  · exact absurd s.hostMove_session hchg

end Sys2Proof.Machine
end

section
/-! SUPPORT. Runs whose every `Send` is ok: the reports of a bracket and of a plan, and the steps that send them, one
report a step (R105, R106). -/

namespace Sys2Proof.Machine

/-! ### The reports of a plan -/

/-- The reports of one bracket that runs without a failure (R105). -/
def groupReports (grp : BracketGroup) : List ReportKind := .start :: (grp.map .body ++ [.stop])

/-- The reports of a plan that runs without a failure (R106). -/
def planReports (plan : Plan) : List ReportKind := plan.flatMap groupReports

theorem groupReports_length (grp : BracketGroup) : (groupReports grp).length = groupSends grp := by
  simp [groupReports, groupSends]

theorem planReports_cons (grp : BracketGroup) (plan : Plan) :
    planReports (grp :: plan) = groupReports grp ++ planReports plan := List.flatMap_cons

theorem planReports_length (plan : Plan) : (planReports plan).length = planSends plan := by
  induction plan with
  | nil => rfl
  | cons grp plan ih => rw [planReports_cons, List.length_append, groupReports_length, ih, planSends_cons]

/-- `shadow` after a confirmed report (R106). -/
def ReportKind.confirmIn (tgt shadow : Frame) : ReportKind → Frame
  | .start => shadow
  | .stop => shadow
  | .body d => d.confirmIn tgt shadow

theorem State.onConfirm_shadow_confirmIn (s : State) (k : ReportKind) :
    (s.onConfirm k).shadow = k.confirmIn s.tgt s.shadow := by
  cases k with
  | start => rfl
  | stop => rfl
  | body d => exact s.onConfirm_shadow d

/-- A confirmed plan does to `shadow` what its body reports do, in order. -/
theorem foldl_confirmIn_planReports (tgt shadow : Frame) (plan : Plan) :
    (planReports plan).foldl (ReportKind.confirmIn tgt) shadow =
      plan.flatten.foldl (BodyReport.confirmIn tgt) shadow := by
  induction plan generalizing shadow with
  | nil => rfl
  | cons grp plan ih =>
    rw [planReports_cons, List.foldl_append, ih, List.flatten_cons, List.foldl_append]
    simp only [groupReports, List.foldl_cons, List.foldl_append, List.foldl_nil, List.foldl_map, ReportKind.confirmIn]

/-! ### A run of ok `Send`s -/

/-- Between `s` and `t` exactly the reports `ks` have gone out, each answered ok (R101, R106). -/
structure State.SentAllOk (s : State) (ks : List ReportKind) (t : State) : Prop where
  tgt : t.tgt = s.tgt
  op : t.op = s.op
  draws : t.draws = s.draws.drop ks.length
  sent : t.sent = s.sent + BitVec.ofNat 8 ks.length
  shadow : t.shadow = ks.foldl (ReportKind.confirmIn s.tgt) s.shadow
  trace : t.trace = s.trace ++ ks.map fun k => sentAs s.tgt k .ok
  session : t.session = s.session
  responses : t.responses = s.responses

section
variable {s t u : State} {ks ls : List ReportKind} {plan : Plan} {g : Nat} {pos : Pos}

theorem State.SentAllOk.refl (s : State) : s.SentAllOk [] s := by
  constructor <;> simp

theorem State.SentAllOk.trans (h : s.SentAllOk ks t) (h' : t.SentAllOk ls u) : s.SentAllOk (ks ++ ls) u where
  tgt := h'.tgt.trans h.tgt
  op := h'.op.trans h.op
  draws := by rw [h'.draws, h.draws, List.drop_drop, List.length_append]
  sent := by rw [h'.sent, h.sent, List.length_append, BitVec.ofNat_add, BitVec.add_assoc]
  shadow := by rw [h'.shadow, h.tgt, h.shadow, List.foldl_append]
  trace := by rw [h'.trace, h.tgt, h.trace, List.map_append, List.append_assoc]
  session := h'.session.trans h.session
  responses := h'.responses.trans h.responses

/-- RunPlan's move from one report to the next sends nothing. -/
theorem State.SentAllOk.setSeq (h : s.SentAllOk ks t) (q : Sequencer) : s.SentAllOk ks (t.setSeq q) :=
  ⟨h.tgt, h.op, h.draws, h.sent, h.shadow, h.trace, h.session, h.responses⟩

/-- The draws behind those that the reports have taken are still ok. -/
theorem State.SentAllOk.okFor (h : s.SentAllOk ks t) {n : Nat} (hok : s.okFor (ks.length + n)) : t.okFor n := by
  obtain ⟨hlen, hall⟩ := hok
  rw [State.okFor, h.draws, List.length_drop]
  refine ⟨by omega, fun d hd => hall d ?_⟩
  rw [List.take_drop] at hd
  exact List.mem_of_mem_drop hd

/-! ### The steps that send a position, a body, a bracket and a plan -/

theorem State.RunsAt.setSeq (h : t.RunsAt plan g pos) (g' : Nat) (pos' : Pos) :
    (t.setSeq (.running plan g' pos')).RunsAt plan g' pos' :=
  ⟨h.noReset, h.noResponse, rfl⟩

/-- A report answered ok: RunPlan goes on from a state that has sent it and still stands at its position. -/
theorem State.RunsAt.step_ok (h : t.RunsAt plan g pos) (hv : planValid plan = true) (k : ReportKind)
    (hk : dueKind plan g pos = some k) (hok : t.okFor 1) :
    ∃ u, step t = .next (u.advance .ok) ∧ u.RunsAt plan g pos ∧ t.SentAllOk [k] u := by
  obtain ⟨d, hd, ho⟩ := hok.draws_drop (n := 0)
  refine ⟨((t.submit k).answer .ok (t.draws.drop 1)).onConfirm k, ?_,
    ⟨by simpa using h.noReset, by simpa using h.noResponse, by simpa using h.seq⟩, ?_⟩
  · rw [h.step_eq_transact k hk (dueKind_wellFormed plan g pos k hv hk), t.transact_ok k d _ hd ho]
  · constructor <;> simp [State.onConfirm_shadow_confirmIn, countSent_ok, sentAs]

/-- The rest of a body goes out, and END comes next. -/
theorem State.RunsAt.after_body_ok (hv : planValid plan = true) (rest : BracketGroup) (j : Nat)
    (hrest : (plan.getD g []).drop j = rest) (t : State) (h : t.RunsAt plan g (bodyOrFinal plan g j))
    (hok : t.okFor rest.length) :
    ∃ u, t.after rest.length = .next u ∧ u.RunsAt plan g .final ∧ t.SentAllOk (rest.map .body) u := by
  induction rest generalizing j t with
  | nil =>
    rw [bodyOrFinal, if_neg (Nat.not_lt.2 (List.drop_eq_nil_iff.1 hrest))] at h
    exact ⟨t, t.after_zero, h, .refl t⟩
  | cons d rest ih =>
    obtain ⟨hd, hdrop⟩ := getElem?_of_drop_eq_cons hrest
    have hk : dueKind plan g (.body j) = some (.body d) := by rw [dueKind_body, hd, Option.map_some]
    rw [bodyOrFinal, if_pos (List.getElem?_eq_some_iff.1 hd).1] at h
    obtain ⟨u, hstep, hu, hsent⟩ := h.step_ok hv _ hk (hok.mono (by simp))
    rw [u.advance_body_ok plan g j hu.seq] at hstep
    have hsent := hsent.setSeq (.running plan g (bodyOrFinal plan g (j + 1)))
    obtain ⟨v, hafter, hfinal, hvsent⟩ := ih (j + 1) hdrop _ (hu.setSeq g _)
      (hsent.okFor (by rwa [List.length_cons, Nat.add_comm] at hok))
    exact ⟨v, (State.after_succ t _ _ hstep).trans hafter, hfinal, hsent.trans hvsent⟩

/-- A bracket goes out, and RunPlan goes on behind its END. -/
theorem State.RunsAt.after_group_ok (h : t.RunsAt plan g .start) (hv : planValid plan = true) (grp : BracketGroup)
    (hgrp : plan[g]? = some grp) (hok : t.okFor (groupSends grp)) :
    ∃ u, t.after (groupSends grp) = .next (u.advance .ok) ∧ u.RunsAt plan g .final ∧
      t.SentAllOk (groupReports grp) u := by
  have hg : g < plan.length := (List.getElem?_eq_some_iff.1 hgrp).1
  have hbody : (plan.getD g []).drop 0 = grp := by rw [List.drop_zero, List.getD_eq_getElem?_getD, hgrp]; rfl
  obtain ⟨u, hstart, hu, husent⟩ := h.step_ok hv .start (dueKind_start plan g hg)
    (hok.mono (by rw [groupSends]; omega))
  rw [u.advance_start_ok plan g hu.seq] at hstart
  have husent := husent.setSeq (.running plan g (bodyOrFinal plan g 0))
  obtain ⟨v, hafter, hfinal, hvsent⟩ := State.RunsAt.after_body_ok hv grp 0 hbody _ (hu.setSeq g _)
    (husent.okFor (hok.mono (by simp [groupSends]; omega)))
  have hsent := husent.trans hvsent
  obtain ⟨x, hstop, hx, hxsent⟩ := hfinal.step_ok hv .stop (dueKind_final plan g hg)
    (hsent.okFor (hok.mono (by simp [groupSends])))
  refine ⟨x, State.after_step t v _ _ ((State.after_succ t _ _ hstart).trans hafter) hstop, hx, ?_⟩
  simpa [groupReports] using hsent.trans hxsent

/-- The groups of a plan from `g` on go out, and the operation ends with OK. -/
theorem State.RunsAt.after_groups_ok (hv : planValid plan = true) (rest : Plan) (g : Nat) (hrest : plan.drop g = rest)
    (hne : rest ≠ []) (t : State) (h : t.RunsAt plan g .start) (hok : t.okFor (planSends rest)) :
    ∃ u, t.after (planSends rest) = .next (u.finishExecute .ok) ∧ u.resetLine = false ∧
      t.SentAllOk (planReports rest) u := by
  induction rest generalizing g t with
  | nil => exact absurd rfl hne
  | cons grp rest ih =>
    obtain ⟨hgrp, hdrop⟩ := getElem?_of_drop_eq_cons hrest
    rw [planSends_cons] at hok ⊢
    obtain ⟨u, hafter, hu, hsent⟩ := h.after_group_ok hv grp hgrp (hok.mono (Nat.le_add_right _ _))
    rw [u.advance_final_ok plan g hu.seq] at hafter
    by_cases hlast : g + 1 < plan.length
    · rw [if_pos hlast] at hafter
      have hrestne : rest ≠ [] := by rw [← hdrop]; simpa [List.drop_eq_nil_iff] using hlast
      have hsent := hsent.setSeq (.running plan (g + 1) .start)
      obtain ⟨v, hafter', hl, hvsent⟩ := ih (g + 1) hdrop hrestne _ (hu.setSeq (g + 1) .start)
        (hsent.okFor (by rwa [groupReports_length]))
      exact ⟨v, (State.after_add t _ _ _ hafter).trans hafter', hl, planReports_cons grp rest ▸ hsent.trans hvsent⟩
    · rw [if_neg hlast] at hafter
      obtain rfl : rest = [] := by rw [← hdrop, List.drop_eq_nil_iff]; omega
      exact ⟨u, hafter, hu.noReset, by simpa [planReports] using hsent⟩

/-- The response of an ok operation is delivered by the step behind its last END. -/
theorem State.RunsAt.after_plan_delivered (h : t.RunsAt plan 0 .start) (hv : planValid plan = true) (hne : plan ≠ [])
    (hok : t.okFor (planSends plan)) :
    ∃ u, t.after (planSends plan + 1) = .next ((u.finishExecute .ok).deliver (rspWord u.sent .ok)) ∧
      t.SentAllOk (planReports plan) u := by
  obtain ⟨u, hafter, hl, hsent⟩ := State.RunsAt.after_groups_ok hv plan 0 rfl hne t h hok
  have hdeliver := step_deliver _ _ ((u.finishExecute_resetLine .ok).trans hl) (u.finishExecute_rsp .ok)
  exact ⟨u, State.after_step t _ _ _ hafter hdeliver, hsent⟩

end

end Sys2Proof.Machine
end

section
/-! SUPPORT. INIT: its acceptance, its reports, and what they leave in `shadow` when all are confirmed (R124 to R133). -/

namespace Sys2Proof.Machine

/-- INIT's plan, chunk by chunk (R124, R142). -/
theorem initPlan_eq_chunks (c : Params) (p : BitVec 2) :
    initPlan c p =
      [ [.profile p], [.sub c.subMode c.argModeCustom], [.sub c.subPoll c.argPoll], [.sub c.subDelay c.argDelay],
        [.kc 0 18, .kc 18 18, .kc 36 18, .kc 54 18, .kc 72 18, .kc 90 18, .kc 108 18] ] := by
  rw [initPlan, chunks_keyCap]

/-- The chunks of a full frame, all confirmed, make `shadow` the target. -/
theorem foldl_confirmIn_chunks (tgt shadow : Frame) :
    (chunks Config.keyCap).foldl (BodyReport.confirmIn tgt) shadow = tgt := by
  refine frame_ext _ _ fun k hk => ?_
  rw [← (chunks Config.keyCap).take_of_length_le chunks_keyCap_length.le, chunks_keyCap_take 7 le_rfl,
    keyRead_foldl_confirmIn_chunks tgt shadow 7 k hk, if_pos hk]

/-- The four settings of an INIT leave `shadow`, and its full frame makes it the target. -/
theorem foldl_confirmIn_initPlan (c : Params) (p : BitVec 2) (tgt shadow : Frame) :
    (planReports (initPlan c p)).foldl (ReportKind.confirmIn tgt) shadow = tgt := by
  rw [foldl_confirmIn_planReports]
  calc (initPlan c p).flatten.foldl (BodyReport.confirmIn tgt) shadow
      = (chunks Config.keyCap).foldl (BodyReport.confirmIn tgt) shadow := by
        simp [initPlan, BodyReport.confirmIn]
    _ = tgt := foldl_confirmIn_chunks tgt shadow

/-- The acceptance of an INIT latches its frame, drops the session to Opened and starts its five brackets
(R124, R131). -/
theorem step_init (s : State) (w : ReqWord) (h : Header) (hp : s.Presents w) (hdec : decodeRequest w = .init h)
    (hres : h.ReservedClear) (hprof : h.prof ≠ 0) (hlen : h.uf = 1 → h.len = 126)
    (hses : s.session = .opened ∨ s.session = .initialized) :
    ∃ t, step s = .next t ∧ t.RunsAt (initPlan Config.params h.prof) 0 .start ∧
      t.tgt = (if h.uf = 1 then s.frm.map laneColor else Vector.replicate 126 ⟨0xFF, 0xFF, 0xFF⟩) ∧
      t.op = opInit ∧ t.sent = 0 ∧ t.draws = s.draws ∧ t.trace = s.trace ∧ t.responses = s.responses := by
  have hexec := initStartsItsFiveBrackets h s hp.notBusy hp.idle hses hres hprof hlen
  rw [← initPlan_eq_chunks Config.params h.prof] at hexec
  rw [← hdec, ← step_request s w hp] at hexec
  exact ⟨_, hexec, ⟨hp.noReset, hp.noResponse, rfl⟩,
    rfl, rfl, rfl, rfl, rfl, rfl⟩

end Sys2Proof.Machine
end

/-! ### A whole INIT (R124, R130, R133) -/

section
namespace Sys2Proof.Machine

/-- Settles O48: the acceptance, then the 21 reports of INIT's plan all confirmed, then the delivery. -/
theorem initRunsItsTwentyOneReports : Obligations.InitRunsItsTwentyOneReports := by
  intro s w h tgt hp hdec hres hprof hlen hses hok htgt
  obtain ⟨t, haccept, hstart, httgt, hop, hsent, hdraws, htrace, hrsp⟩ := step_init s w h hp hdec hres hprof hlen hses
  have hsends := planSends_initPlan Config.params h.prof
  obtain ⟨u, hafter, hu⟩ := hstart.after_plan_delivered (planValid_initPlan _ _ hprof) (by simp [initPlan_eq])
    (by rwa [hsends, State.okFor, hdraws])
  have hlength := (planReports_length _).trans hsends
  rw [← htgt] at httgt
  refine ⟨_, (State.after_succ s t _ haccept).trans (hsends ▸ hafter), ?_, rfl, ?_, ?_, ?_, ?_, ?_⟩
  · rw [State.deliver_responses, State.finishExecute_responses, hu.responses, hrsp, hu.sent, hsent, hlength]
    rfl
  · rw [State.deliver_seq, State.finishExecute_seq]
  · rw [State.deliver_session, State.finishExecute_session, hu.op, hop, if_pos ⟨rfl, rfl⟩]
  · rw [State.deliver_shadow, State.finishExecute_shadow, hu.shadow, foldl_confirmIn_initPlan, httgt]
  · rw [State.deliver_draws, State.finishExecute_draws, hu.draws, hlength, hdraws]
  · rw [State.deliver_trace, State.finishExecute_trace, hu.trace, htrace, httgt, initPlan_eq_chunks]
    rfl

end Sys2Proof.Machine
end

section
/-! SUPPORT. Chunks of a frame of any size (R140, R141), the number of runs of a scan with no gap limit, and the reports
of a WRITE_FRAME's plan (R160 to R163). -/

namespace Sys2Proof.Machine

/-! ### Chunks of a frame of any size (R140) -/

theorem chunks_eq_map (n : Nat) :
    chunks n = (List.range ((n + 17) / 18)).map fun c => .kc (18 * c) (min 18 (n - 18 * c)) := by
  simp [chunks, Nat.mul_comm]

theorem chunks_length (n : Nat) : (chunks n).length = (n + 17) / 18 := by
  rw [chunks_eq_map, List.length_map, List.length_range]

theorem chunks_getElem? (n c : Nat) (hc : c < (chunks n).length) :
    (chunks n)[c]? = some (.kc (18 * c) (min 18 (n - 18 * c))) := by
  rw [chunks_length] at hc
  rw [chunks_eq_map, List.getElem?_map, List.getElem?_range hc, Option.map_some]

/-- The first `m` chunks are the keys below `18 * m`, as far as the frame goes. -/
theorem flatMap_range'_chunk (n m : Nat) :
    ((List.range m).flatMap fun c => List.range' (18 * c) (min 18 (n - 18 * c))) = List.range (min n (18 * m)) := by
  induction m with
  | zero => simp
  | succ m ih =>
    rw [List.range_succ, List.flatMap_append, ih, List.flatMap_singleton]
    obtain hpast | hin := Nat.le_total n (18 * m)
    · rw [Nat.sub_eq_zero_of_le hpast, Nat.min_zero, List.range'_zero, List.append_nil, Nat.min_eq_left hpast,
        Nat.min_eq_left (by omega)]
    · have hnext : min n (18 * (m + 1)) = 18 * m + min 18 (n - 18 * m) := by omega
      rw [Nat.min_eq_right hin, hnext, List.range_add, List.range'_eq_map_range]

/-! ### The number of runs (R160) -/

/-- With no gap limit only the capacity closes a run (R159). -/
theorem add_le_of_closesRun_none (dirty : Bool) (i s e : Nat) (h : closesRun none dirty i s e = true) :
    s + 18 ≤ i := by
  simp only [closesRun, Config.keysPerPkt_eq, Bool.or_false, decide_eq_true_eq] at h
  omega

/-- Each run but the last takes 18 keys of the scan, which begins at the open run's first key. -/
theorem scanRuns_none_length (dirty : List Bool) (i : Nat) (opened : Option (Nat × Nat)) (ho : OpenWithin i opened) :
    18 * (scanRuns none i opened dirty).length + opened.elim i Prod.fst ≤ i + dirty.length + 17 := by
  induction dirty generalizing i opened with
  | nil =>
    match opened with
    | none => simp [scanRuns]
    | some (s, e) =>
      obtain ⟨hse, hei, -⟩ := ho s e rfl
      simp only [scanRuns, List.length_singleton, List.length_nil, Option.elim_some]
      omega
  | cons d rest ih =>
    have hnew := ih (i + 1) _ (openWithin_new i d)
    have hstart : i ≤ (if d then some (i, i) else none : Option (Nat × Nat)).elim (i + 1) Prod.fst := by
      cases d <;> simp
    rw [List.length_cons]
    match opened with
    | none =>
      simp only [scanRuns, Option.elim_none]
      omega
    | some (s, e) =>
      simp only [scanRuns, Option.elim_some]
      split
      next hc =>
        have hcap := add_le_of_closesRun_none d i s e hc
        rw [List.length_cons]
        omega
      next hc =>
        have hext := ih (i + 1) _ (openWithin_extend none d i s e ho hc)
        rw [Option.elim_some] at hext
        omega

theorem frameRuns_length_le (acc : BitVec 16) (tgt shadow : Frame) : (frameRuns acc tgt shadow).length ≤ 7 := by
  have hlen := scanRuns_none_length (dirtyKeys acc tgt shadow) 0 none (openWithin_none 0)
  have hkeys : (dirtyKeys acc tgt shadow).length = 126 := by simp [dirtyKeys]
  rw [hkeys, Option.elim_none] at hlen
  rw [frameRuns, Config.gapLimit_eq, runs]
  omega

/-! ### The reports of the frame updates' plans (R144, R161 to R163) -/

theorem planSends_writeFramePlan_of_le (rs : List Run) (hpos : 1 ≤ rs.length) (hfew : rs.length ≤ 6) :
    planSends (writeFramePlan rs) = rs.length + 2 := by
  simp [writeFramePlan_of_le rs hpos hfew, groupSends]

theorem planSends_writeFramePlan_of_lt (rs : List Run) (hmany : 6 < rs.length) :
    planSends (writeFramePlan rs) = 9 := by
  rw [writeFramePlan_of_lt rs hmany, planSends_fullFramePlan]

theorem writeFramePlan_ne_nil (rs : List Run) (hne : rs ≠ []) : writeFramePlan rs ≠ [] := by
  unfold writeFramePlan
  rw [if_neg hne]
  split
  next => exact List.cons_ne_nil _ _
  next => exact List.cons_ne_nil _ _

theorem planReports_writeFramePlan_of_le (rs : List Run) (hpos : 1 ≤ rs.length) (hfew : rs.length ≤ 6) :
    planReports (writeFramePlan rs) =
      [.start] ++ rs.map (fun r => .body (.kc r.offset r.length)) ++ [.stop] := by
  simp [writeFramePlan_of_le rs hpos hfew, planReports, groupReports, Run.descriptor]

theorem planReports_fullFramePlan :
    planReports fullFramePlan =
      [ .start, .body (.kc 0 18), .body (.kc 18 18), .body (.kc 36 18), .body (.kc 54 18), .body (.kc 72 18),
        .body (.kc 90 18), .body (.kc 108 18), .stop ] := by
  rw [fullFramePlan_eq]
  rfl

/-- A full frame, all confirmed, makes `shadow` the target (R143). -/
theorem foldl_confirmIn_fullFramePlan (tgt shadow : Frame) :
    (planReports fullFramePlan).foldl (ReportKind.confirmIn tgt) shadow = tgt := by
  rw [foldl_confirmIn_planReports]
  exact foldl_confirmIn_chunks tgt shadow

end Sys2Proof.Machine
end

section
/-! SUPPORT. A frame update from its acceptance to the delivery of its OK, every `Send` ok (R143, R147, R167, R169). -/

namespace Sys2Proof.Machine

/-- The state `t` that the acceptance of a frame update in session Initialized makes of `s`: `tgt` is loaded, and a plan
that has sent nothing stands at its first START (R143, R163). -/
structure State.StartsFrameUpdate (s : State) (plan : Plan) (tgt : Frame) (t : State) : Prop where
  runsAt : t.RunsAt plan 0 .start
  tgt : t.tgt = tgt
  shadow : t.shadow = s.shadow
  sent : t.sent = 0
  draws : t.draws = s.draws
  trace : t.trace = s.trace
  session : t.session = .initialized
  responses : t.responses = s.responses

/-- The state `u` that a frame update leaves of `s` when the reports `ks` have gone out, all ok, and its OK is delivered
(R110, R169). -/
structure State.FrameUpdated (s : State) (ks : List ReportKind) (tgt : Frame) (u : State) : Prop where
  responses : u.responses = s.responses ++ [rspWord (BitVec.ofNat 8 ks.length) .ok]
  busy : u.busy = false
  seq : u.seq = .idle
  session : u.session = .initialized
  shadow : u.shadow = ks.foldl (ReportKind.confirmIn tgt) s.shadow
  draws : u.draws = s.draws.drop ks.length
  trace : u.trace = s.trace ++ ks.map fun k => sentAs tgt k .ok

/-- One step for the acceptance, one for each report of the plan, and one for the delivery. -/
theorem State.StartsFrameUpdate.after_delivered {s t : State} {plan : Plan} {tgt : Frame}
    (h : s.StartsFrameUpdate plan tgt t) (haccept : step s = .next t) (hv : planValid plan = true) (hne : plan ≠ [])
    (hok : s.okFor (planSends plan)) :
    ∃ u, s.after (planSends plan + 2) = .next u ∧ s.FrameUpdated (planReports plan) tgt u := by
  obtain ⟨u, hafter, hu⟩ := h.runsAt.after_plan_delivered hv hne (by rwa [State.okFor, h.draws])
  refine ⟨_, (State.after_succ s t _ haccept).trans hafter, ?_, rfl, ?_, ?_, ?_, ?_, ?_⟩
  · rw [State.deliver_responses, State.finishExecute_responses, hu.responses, h.responses, hu.sent, h.sent, zero_add]
  · rw [State.deliver_seq, State.finishExecute_seq]
  · rw [State.deliver_session, State.finishExecute_session, hu.session, h.session, ite_self]
  · rw [State.deliver_shadow, State.finishExecute_shadow, hu.shadow, h.tgt, h.shadow]
  · rw [State.deliver_draws, State.finishExecute_draws, hu.draws, h.draws]
  · rw [State.deliver_trace, State.finishExecute_trace, hu.trace, h.trace, h.tgt]

theorem step_writeFullFrame_starts (s : State) (w : ReqWord) (h : Header) (hp : s.Presents w)
    (hdec : decodeRequest w = .writeFullFrame h) (hres : h.ReservedClear) (hlen : h.len = 126)
    (hses : s.session = .initialized) :
    ∃ t, step s = .next t ∧ s.StartsFrameUpdate fullFramePlan (s.frm.map laneColor) t := by
  obtain ⟨t, haccept, hruns, htgt, hshadow, hsent, hdraws, htrace, hsession, hresponses⟩ :=
    step_writeFullFrame s w h hp hdec hres hlen hses
  exact ⟨t, haccept, hruns, htgt, hshadow, hsent, hdraws, htrace, hsession, hresponses⟩

/-- The acceptance of a WRITE_FRAME with at least one run starts the plan of its runs (R163, R167). -/
theorem step_writeFrame_starts (s : State) (w : ReqWord) (h : Header) (rs : List Run) (hp : s.Presents w)
    (hdec : decodeRequest w = .writeFrame h) (hres : h.ReservedClear) (hlen : h.len = 126)
    (hacc : h.acc.toNat ≤ 0x8000) (hses : s.session = .initialized)
    (hrs : rs = frameRuns h.acc (s.frm.map laneColor) s.shadow) (hpos : 1 ≤ rs.length) :
    ∃ t, step s = .next t ∧ s.StartsFrameUpdate (writeFramePlan rs) (s.frm.map laneColor) t := by
  obtain ⟨-, hfew, hmany⟩ := writeFrameDecidesByItsRuns h s rs hp.notBusy hp.idle hses hres hlen hacc hrs
  rw [step_request s w hp, hdec]
  obtain hlt | hle := Nat.lt_or_ge 6 rs.length
  · rw [writeFramePlan_of_lt rs hlt, fullFramePlan_eq]
    exact ⟨_, hmany hlt, ⟨hp.noReset, hp.noResponse, rfl⟩, rfl, rfl, rfl, rfl, rfl, hses, rfl⟩
  · rw [writeFramePlan_of_le rs hpos hle]
    exact ⟨_, hfew ⟨hpos, hle⟩, ⟨hp.noReset, hp.noResponse, rfl⟩, rfl, rfl, rfl, rfl, rfl, hses, rfl⟩

/-- A WRITE_FRAME with at least one run sends the reports of the plan of its runs and answers OK (R169). -/
theorem writeFrame_delivered (s : State) (w : ReqWord) (h : Header) (rs : List Run) (hp : s.Presents w)
    (hdec : decodeRequest w = .writeFrame h) (hres : h.ReservedClear) (hlen : h.len = 126)
    (hacc : h.acc.toNat ≤ 0x8000) (hses : s.session = .initialized)
    (hrs : rs = frameRuns h.acc (s.frm.map laneColor) s.shadow) (hpos : 1 ≤ rs.length)
    (hok : s.okFor (planSends (writeFramePlan rs))) :
    ∃ u, s.after (planSends (writeFramePlan rs) + 2) = .next u ∧
      s.FrameUpdated (planReports (writeFramePlan rs)) (s.frm.map laneColor) u := by
  obtain ⟨t, haccept, hstart⟩ := step_writeFrame_starts s w h rs hp hdec hres hlen hacc hses hrs hpos
  exact hstart.after_delivered haccept (planValid_writeFramePlan rs (hrs ▸ frameRuns_within _ _ _))
    (writeFramePlan_ne_nil rs (List.length_pos_iff.1 hpos)) hok

end Sys2Proof.Machine
end

/-! ### Chunks, and whole frame updates (R140, R141, R143, R147, R169) -/

section
namespace Sys2Proof.Machine

/-- Settles O53: the chunks stand one behind the other, 18 keys each as far as the frame goes. -/
theorem chunksPartitionTheFrame : Obligations.ChunksPartitionTheFrame := by
  intro n _
  refine ⟨?count, ?sizes, fun c hc => ?full, ?keys⟩
  case count =>
    rw [chunks_length]
    omega
  case sizes =>
    rw [chunks_eq_map, List.forall_mem_map]
    intro c hc
    rw [List.mem_range] at hc
    exact ⟨_, _, rfl, by omega, by omega, by omega, by omega⟩
  case full =>
    rw [chunks_getElem? n c (Nat.lt_of_succ_lt hc)]
    rw [chunks_length] at hc
    rw [Nat.min_eq_left (by omega)]
  case keys =>
    rw [chunks_eq_map, List.flatMap_map]
    exact (flatMap_range'_chunk n _).trans (congrArg List.range (by omega))

/-- Settles O49: the acceptance, then the nine reports of the full frame's plan all confirmed, then the delivery. -/
theorem writeFullFrameRunsItsNineReports : Obligations.WriteFullFrameRunsItsNineReports := by
  intro s w h hp hdec hres hlen hses hok
  obtain ⟨t, haccept, hstart⟩ := step_writeFullFrame_starts s w h hp hdec hres hlen hses
  obtain ⟨u, hafter, hu⟩ := hstart.after_delivered haccept planValid_fullFramePlan (List.cons_ne_nil _ _)
    (planSends_fullFramePlan ▸ hok)
  have hshadow := hu.shadow.trans (foldl_confirmIn_fullFramePlan _ _)
  rw [planSends_fullFramePlan] at hafter
  rw [planReports_fullFramePlan] at hu
  exact ⟨u, hafter, hu.responses, hu.busy, hu.seq, hu.session, hshadow, hu.draws, hu.trace⟩

/-- Settles O60: the scan gives at most 7 runs, the plan has the table's `Send`s for each number of them, and a run of
the machine sends the plan's reports; with no run the acceptance ends the operation itself. -/
theorem writeFrameReportCounts : Obligations.WriteFrameReportCounts := by
  refine ⟨fun acc tgt shadow => ⟨frameRuns_length_le acc tgt shadow, fun hnone => ?_, fun ⟨hpos, hfew⟩ => ?_,
    fun hmany => ?_⟩, ?_⟩
  · rw [List.length_eq_zero_iff.1 hnone, writeFramePlan_nil, planSends_nil]
  · exact planSends_writeFramePlan_of_le _ hpos hfew
  · exact planSends_writeFramePlan_of_lt _ (by omega)
  rintro s w h _ rs hp hdec hres hlen hacc hses rfl hrs
  have hdelivered := writeFrame_delivered s w h rs hp hdec hres hlen hacc hses hrs
  refine ⟨fun hnone => ?_, fun ⟨hpos, hfew⟩ hok => ?_, fun hmany hok => ?_⟩
  · have haccept := (writeFrameDecidesByItsRuns h s rs hp.notBusy hp.idle hses hres hlen hacc hrs).1 hnone
    rw [← hdec, ← step_request s w hp] at haccept
    exact ⟨_, State.after_step s _ _ 1 (State.after_succ s _ 0 haccept) (step_deliver _ _ hp.noReset rfl),
      rfl, rfl, hp.idle, hses, rfl, rfl, rfl⟩
  · have hsends := planSends_writeFramePlan_of_le rs hpos hfew
    obtain ⟨u, hafter, hu⟩ := hdelivered hpos (hsends ▸ hok)
    have hlength := (planReports_length _).trans hsends
    rw [hsends] at hafter
    refine ⟨u, hafter, hlength ▸ hu.responses, hu.busy, hu.seq, hu.session, hlength ▸ hu.draws, ?_⟩
    rw [hu.trace, planReports_writeFramePlan_of_le rs hpos hfew, List.map_append, List.map_append, List.map_map]
    rfl
  · have hlt : 6 < rs.length := by omega
    obtain ⟨u, hafter, hu⟩ := hdelivered (by omega) (planSends_writeFramePlan_of_lt rs hlt ▸ hok)
    rw [planSends_writeFramePlan_of_lt rs hlt] at hafter
    rw [writeFramePlan_of_lt rs hlt] at hu
    have hshadow := hu.shadow.trans (foldl_confirmIn_fullFramePlan _ _)
    rw [planReports_fullFramePlan] at hu
    exact ⟨u, hafter, hu.responses, hu.busy, hu.seq, hu.session, hu.draws, hshadow, hu.trace⟩

end Sys2Proof.Machine
end

section
/-! SUPPORT. The change test (R155 to R158): the range of `delta`, the test in its integer form and against the floor
threshold, and the keys of a frame that it finds dirty. -/

namespace Sys2Proof.Machine

/-- Six bytes, three on each side: `delta` is at most 765 either way (R155). -/
theorem delta_natAbs_le (new old : Color) : (delta new old).natAbs ≤ 765 := by
  have hr := new.r.isLt
  have hg := new.g.isLt
  have hb := new.b.isLt
  have hr' := old.r.isLt
  have hg' := old.g.isLt
  have hb' := old.b.isLt
  unfold delta
  omega

/-- `delta` is the difference of the channel sums, so opposite changes cancel (R158). -/
theorem delta_eq_zero_iff (new old : Color) :
    delta new old = 0 ↔
      new.r.toNat + new.g.toNat + new.b.toNat = old.r.toNat + old.g.toNat + old.b.toNat := by
  unfold delta
  omega

@[simp] theorem delta_self (c : Color) : delta c c = 0 := (delta_eq_zero_iff c c).2 rfl

/-- The integer form of the dirty predicate (R157). -/
theorem isDirty_iff (acc : BitVec 16) (new old : Color) :
    isDirty acc new old = true ↔ ((32768 : Int) - acc.toNat) * 765 < (delta new old).natAbs * 32768 := by
  simp [isDirty]

/-- The second integer form, against the floor threshold (R157). -/
theorem isDirty_iff_threshold_lt (acc : BitVec 16) (new old : Color) (hacc : acc.toNat ≤ 0x8000) :
    isDirty acc new old = true ↔ threshold acc < (delta new old).natAbs := by
  rw [isDirty_iff, threshold, Config.accDen_eq, Nat.div_lt_iff_lt_mul (by decide)]
  omega

theorem isDirty_eq_false_iff_le_threshold (acc : BitVec 16) (new old : Color) (hacc : acc.toNat ≤ 0x8000) :
    isDirty acc new old = false ↔ (delta new old).natAbs ≤ threshold acc := by
  rw [← Bool.not_eq_true, isDirty_iff_threshold_lt acc new old hacc, Nat.not_lt]

/-- The rational form: the integer one divided by `32768` (R156). -/
theorem isDirty_iff_rational (acc : BitVec 16) (new old : Color) :
    isDirty acc new old = true ↔ (|delta new old| : ℚ) > (1 - (acc.toNat : ℚ) / 32768) * (255 * 3) := by
  have hquot : (1 - (acc.toNat : ℚ) / 32768) * (255 * 3) = (32768 - acc.toNat) * 765 / 32768 := by ring
  rw [isDirty_iff, ← @Int.cast_lt ℚ, gt_iff_lt, hquot, div_lt_iff₀ (by norm_num)]
  push_cast
  rfl

/-- A key whose channel sum does not change is clean at every legal accuracy (R158). -/
theorem isDirty_of_delta_eq_zero (acc : BitVec 16) (new old : Color) (hacc : acc.toNat ≤ 0x8000)
    (h : delta new old = 0) : isDirty acc new old = false := by
  rw [isDirty_eq_false_iff_le_threshold acc new old hacc, h]
  exact Nat.zero_le _

/-- At accuracy 0 the threshold is 765, which `delta` never exceeds (R155, R156). -/
theorem isDirty_zero (new old : Color) : isDirty 0 new old = false :=
  (isDirty_eq_false_iff_le_threshold 0 new old (by decide)).2 (delta_natAbs_le new old)

/-! ### The dirty keys of a frame (R156) -/

theorem dirtyKeys_getElem? (acc : BitVec 16) (tgt shadow : Frame) (k : Nat) (hk : k < 126) :
    (dirtyKeys acc tgt shadow)[k]? = some (isDirty acc (keyRead tgt k) (keyRead shadow k)) := by
  rw [dirtyKeys, List.getElem?_map, List.getElem?_range hk, Option.map_some]

/-- With no dirty key the list is 126 times `false`. -/
theorem dirtyKeys_eq_replicate_false (acc : BitVec 16) (tgt shadow : Frame)
    (h : ∀ k, k < 126 → isDirty acc (keyRead tgt k) (keyRead shadow k) = false) :
    dirtyKeys acc tgt shadow = List.replicate 126 false := by
  rw [dirtyKeys, List.eq_replicate_iff, List.forall_mem_map]
  exact ⟨by simp, fun k hk => h k (List.mem_range.1 hk)⟩

end Sys2Proof.Machine
end

section
/-! SUPPORT. The scan of the diff engine with no gap limit (R159, R160): what it does with clean keys and with a full
run, and what its runs are together. -/

namespace Sys2Proof.Machine

/-! ### Clean keys and contiguous spans (R160, item 6) -/

/-- While no run is open, clean keys are passed over. -/
theorem scanRuns_replicate_false_append (gap : Option Nat) (n i : Nat) (rest : List Bool) :
    scanRuns gap i none (List.replicate n false ++ rest) = scanRuns gap (i + n) none rest := by
  induction n generalizing i with
  | zero => rfl
  | succ n ih => exact (ih (i + 1)).trans (by rw [Nat.add_right_comm, Nat.add_assoc])

theorem scanRuns_replicate_false (gap : Option Nat) (n i : Nat) :
    scanRuns gap i none (List.replicate n false) = [] := by
  rw [← List.append_nil (List.replicate n false), scanRuns_replicate_false_append]
  rfl

theorem closesRun_none_iff (dirty : Bool) (i s e : Nat) : closesRun none dirty i s e = true ↔ 18 < i - s + 1 := by
  simp [closesRun]

/-- A run at its capacity is closed, and the scan goes on as with no run open. -/
theorem scanRuns_none_full (i s e : Nat) (dirty : List Bool) (hfull : s + 18 ≤ i) :
    scanRuns none i (some (s, e)) dirty = runOf s e :: scanRuns none i none dirty := by
  cases dirty with
  | nil => rfl
  | cons d rest => simp only [scanRuns, if_pos ((closesRun_none_iff d i s e).2 (by omega))]

/-- A key that the open run has room for is taken in, and a dirty one becomes its last key. -/
theorem scanRuns_none_room (i s e : Nat) (d : Bool) (rest : List Bool) (hroom : i < s + 18) :
    scanRuns none i (some (s, e)) (d :: rest) = scanRuns none (i + 1) (some (s, if d then i else e)) rest := by
  simp only [scanRuns, if_neg (mt (closesRun_none_iff d i s e).1 (by omega))]

/-- Clean keys to the end of the frame leave the open run as it is. -/
theorem scanRuns_none_open_replicate_false (n i s e : Nat) :
    scanRuns none i (some (s, e)) (List.replicate n false) = [runOf s e] := by
  induction n generalizing i with
  | zero => rfl
  | succ n ih =>
    obtain hfull | hroom := le_or_gt (s + 18) i
    · rw [scanRuns_none_full i s e _ hfull, scanRuns_replicate_false]
    · rw [List.replicate_succ, scanRuns_none_room i s e false _ hroom]
      exact ih (i + 1)

/-- Dirty keys that the open run has room for extend it. -/
theorem scanRuns_none_extend (n i s : Nat) (rest : List Bool) (hroom : i + n < s + 18) :
    scanRuns none (i + 1) (some (s, i)) (List.replicate n true ++ rest) =
      scanRuns none (i + n + 1) (some (s, i + n)) rest := by
  induction n generalizing i with
  | zero => rfl
  | succ n ih =>
    rw [List.replicate_succ, List.cons_append, scanRuns_none_room _ _ _ true _ (by omega)]
    exact (ih (i + 1) (by omega)).trans (by rw [Nat.add_right_comm i 1 n, Nat.add_assoc i n 1])

/-- At most 18 dirty keys in a row open one run that holds them all. -/
theorem scanRuns_none_open (n i : Nat) (rest : List Bool) (hcap : n < 18) :
    scanRuns none i none (List.replicate (n + 1) true ++ rest) =
      scanRuns none (i + n + 1) (some (i, i + n)) rest :=
  scanRuns_none_extend n i i rest (by omega)

/-- A contiguous dirty span that begins where the scan stands, with no dirty key behind it: as long as more than 18 keys
are left, the next 18 are a run of their own. -/
theorem scanRuns_none_span (n b i : Nat) :
    scanRuns none i none (List.replicate n true ++ List.replicate b false) =
      (List.range ((n + 17) / 18)).map fun c => ⟨i + 18 * c, min 18 (n - 18 * c)⟩ := by
  induction n using Nat.strong_induction_on generalizing i with
  | _ n ih =>
    obtain rfl | hpos := Nat.eq_zero_or_pos n
    · exact scanRuns_replicate_false none b i
    obtain hle | hgt := le_or_gt n 18
    · obtain ⟨m, rfl⟩ := Nat.exists_eq_add_of_lt hpos
      have hone : (0 + m + 1 + 17) / 18 = 1 := by omega
      rw [hone, Nat.zero_add, scanRuns_none_open m i _ (by omega), scanRuns_none_open_replicate_false]
      simp [runOf]
      omega
    · obtain ⟨m, rfl⟩ := Nat.exists_eq_add_of_lt hgt
      have hcount : (18 + (m + 1) + 17) / 18 = (m + 1 + 17) / 18 + 1 := by omega
      have hfirst : runOf i (i + 17) = ⟨i + 18 * 0, min 18 (18 + (m + 1) - 18 * 0)⟩ := by
        rw [runOf, Run.mk.injEq]
        omega
      rw [Nat.add_assoc 18 m 1, ← List.replicate_append_replicate, List.append_assoc,
        scanRuns_none_open 17 i _ (by decide), scanRuns_none_full _ _ _ _ (Nat.le_refl _),
        ih (m + 1) (by omega), hcount, List.range_succ_eq_map, List.map_cons, List.map_map, hfirst]
      refine congrArg _ (List.map_congr_left fun c _ => ?_)
      rw [Function.comp_apply, Run.mk.injEq]
      omega

/-! ### What the runs of a scan are together (R160, items 2, 3 and 5) -/

/-- Key `k` is one of the keys of the run. -/
def Run.Holds (r : Run) (k : Nat) : Prop := r.offset ≤ k ∧ k < r.offset + r.length

/-- The runs `rs` group the dirty keys from key `start` on: they begin and end at dirty keys, stand at least 18 keys
apart in ascending order, and hold every dirty key (R160). -/
structure Grouped (dirty : List Bool) (start : Nat) (rs : List Run) : Prop where
  ends : ∀ r ∈ rs, dirty[r.offset]? = some true ∧ dirty[r.offset + r.length - 1]? = some true
  behind : ∀ r ∈ rs, start ≤ r.offset
  ascending : rs.Pairwise fun a b => a.offset + 18 ≤ b.offset
  covers : ∀ k, start ≤ k → dirty[k]? = some true → ∃ r ∈ rs, r.Holds k

/-- The open run of a scan that has come to key `i` begins at a dirty key, and `e` is the last dirty key before `i`. -/
def OpenDirty (dirty : List Bool) (i : Nat) (opened : Option (Nat × Nat)) : Prop :=
  ∀ s e, opened = some (s, e) →
    dirty[s]? = some true ∧ dirty[e]? = some true ∧ ∀ k, e < k → k < i → dirty[k]? ≠ some true

theorem openDirty_none (dirty : List Bool) (i : Nat) : OpenDirty dirty i none := nofun

theorem openDirty_new {dirty : List Bool} {i : Nat} {d : Bool} (hd : dirty[i]? = some d) :
    OpenDirty dirty (i + 1) (if d then some (i, i) else none) := by
  cases d with
  | false => exact openDirty_none _ _
  | true =>
    rintro s e ⟨⟩
    exact ⟨hd, hd, by omega⟩

theorem OpenDirty.extend {dirty : List Bool} {i s e : Nat} {d : Bool} (ho : OpenDirty dirty i (some (s, e)))
    (hd : dirty[i]? = some d) : OpenDirty dirty (i + 1) (some (s, if d then i else e)) := by
  obtain ⟨hs, he, hclean⟩ := ho s e rfl
  rintro s' e' ⟨⟩
  cases d with
  | true => exact ⟨hs, hd, fun k hik hki => absurd hik (Nat.not_lt.2 (Nat.le_of_lt_succ hki))⟩
  | false =>
    refine ⟨hs, he, fun k hek hki => ?_⟩
    obtain hlt | rfl := Nat.lt_succ_iff_lt_or_eq.1 hki
    · exact hclean k hek hlt
    · simp [hd]

theorem Grouped.nil {dirty : List Bool} {start : Nat} (h : dirty.length ≤ start) : Grouped dirty start [] where
  ends := nofun
  behind := nofun
  ascending := .nil
  covers k hk hd := by simp [List.getElem?_eq_none (h.trans hk)] at hd

/-- A clean key in front belongs to no run. -/
theorem Grouped.of_clean {dirty : List Bool} {start : Nat} {rs : List Run} (h : Grouped dirty (start + 1) rs)
    (hclean : dirty[start]? = some false) : Grouped dirty start rs where
  ends := h.ends
  behind r hr := Nat.le_of_succ_le (h.behind r hr)
  ascending := h.ascending
  covers k hk hd := by
    obtain rfl | hlt := Nat.eq_or_lt_of_le hk
    · simp [hclean] at hd
    · exact h.covers k hlt hd

/-- The open run, closed at key `i`, goes in front of the runs of the keys from `i` on. -/
theorem Grouped.cons {dirty : List Bool} {s e i : Nat} {rs : List Run} (h : Grouped dirty i rs)
    (ho : OpenWithin i (some (s, e))) (hd : OpenDirty dirty i (some (s, e))) (hfar : ∀ r ∈ rs, s + 18 ≤ r.offset) :
    Grouped dirty s (runOf s e :: rs) := by
  obtain ⟨hse, hei, -⟩ := ho s e rfl
  obtain ⟨hs, he, hclean⟩ := hd s e rfl
  have hlast : s + (e - s + 1) - 1 = e := by omega
  refine ⟨List.forall_mem_cons.2 ⟨⟨hs, hlast.symm ▸ he⟩, h.ends⟩,
    List.forall_mem_cons.2 ⟨Nat.le_refl s, fun r hr => (Nat.le_add_right s 18).trans (hfar r hr)⟩,
    List.pairwise_cons.2 ⟨hfar, h.ascending⟩, fun k hsk hk => ?_⟩
  obtain hke | hek := le_or_gt k e
  · exact ⟨runOf s e, List.mem_cons_self, hsk, by simp only [runOf]; omega⟩
  · obtain ⟨r, hr, hholds⟩ := h.covers k (Nat.le_of_not_lt fun hki => hclean k hek hki hk) hk
    exact ⟨r, List.mem_cons_of_mem _ hr, hholds⟩

/-- The scan groups the dirty keys from its open run on, or from the key it has come to. -/
theorem scanRuns_none_grouped {dirty : List Bool} (rest : List Bool) (i : Nat) (opened : Option (Nat × Nat))
    (hrest : dirty.drop i = rest) (ho : OpenWithin i opened) (hd : OpenDirty dirty i opened) :
    Grouped dirty (opened.elim i Prod.fst) (scanRuns none i opened rest) := by
  induction rest generalizing i opened with
  | nil =>
    have hend : Grouped dirty i [] := .nil (List.drop_eq_nil_iff.1 hrest)
    match opened with
    | none => exact hend
    | some (s, e) => exact hend.cons ho hd nofun
  | cons d rest ih =>
    obtain ⟨hkey, hdrop⟩ := getElem?_of_drop_eq_cons hrest
    have hnew : Grouped dirty i (scanRuns none (i + 1) (if d then some (i, i) else none) rest) := by
      have h := ih (i + 1) _ hdrop (openWithin_new i d) (openDirty_new hkey)
      cases d with
      | false => exact h.of_clean hkey
      | true => exact h
    match opened with
    | none => exact hnew
    | some (s, e) =>
      simp only [scanRuns]
      split
      next hc =>
        exact hnew.cons ho hd fun r hr => (add_le_of_closesRun_none d i s e hc).trans (hnew.behind r hr)
      next hc => exact ih (i + 1) _ hdrop (openWithin_extend none d i s e ho hc) (hd.extend hkey)

theorem runs_none_grouped (dirty : List Bool) : Grouped dirty 0 (runs none dirty) :=
  scanRuns_none_grouped dirty 0 none rfl (openWithin_none 0) (openDirty_none dirty 0)

theorem runs_within (gap : Option Nat) (dirty : List Bool) : ∀ r ∈ runs gap dirty, r.Within dirty.length :=
  scanRuns_within gap dirty.length dirty 0 none (openWithin_none 0) (Nat.zero_add _).le

/-- Two runs that hold the same key are one run. -/
theorem eq_of_holds {dirty : List Bool} {r r' : Run} {k : Nat} (hr : r ∈ runs none dirty)
    (hr' : r' ∈ runs none dirty) (hk : r.Holds k) (hk' : r'.Holds k) : r = r' := by
  have happart : (runs none dirty).Pairwise fun a b => a.offset + 18 ≤ b.offset ∨ b.offset + 18 ≤ a.offset :=
    (runs_none_grouped dirty).ascending.imp Or.inl
  obtain ⟨-, hcap, -⟩ := runs_within none dirty r hr
  obtain ⟨-, hcap', -⟩ := runs_within none dirty r' hr'
  obtain ⟨hlow, hhigh⟩ := hk
  obtain ⟨hlow', hhigh'⟩ := hk'
  by_contra hne
  have : Std.Symm fun a b : Run => a.offset + 18 ≤ b.offset ∨ b.offset + 18 ≤ a.offset := ⟨fun _ _ => Or.symm⟩
  have := happart.forall hr hr' hne
  omega

theorem runs_none_length_le (dirty : List Bool) (hlen : dirty.length = 126) : (runs none dirty).length ≤ 7 := by
  have h := scanRuns_none_length dirty 0 none (openWithin_none 0)
  rw [hlen, Option.elim_none] at h
  rw [runs]
  omega

/-! ### The runs of a frame (R159, R167) -/

/-- A frame without a dirty key has no run. -/
theorem frameRuns_eq_nil (acc : BitVec 16) (tgt shadow : Frame)
    (h : ∀ k, k < 126 → isDirty acc (keyRead tgt k) (keyRead shadow k) = false) : frameRuns acc tgt shadow = [] := by
  rw [frameRuns, dirtyKeys_eq_replicate_false acc tgt shadow h]
  exact scanRuns_replicate_false _ _ _

/-- Each dirty key of a frame lies in one of its runs. -/
theorem exists_frameRuns_holds (acc : BitVec 16) (tgt shadow : Frame) (k : Nat) (hk : k < 126)
    (hd : isDirty acc (keyRead tgt k) (keyRead shadow k) = true) : ∃ r ∈ frameRuns acc tgt shadow, r.Holds k :=
  (runs_none_grouped _).covers k (Nat.zero_le k) (hd ▸ dirtyKeys_getElem? acc tgt shadow k hk)

end Sys2Proof.Machine
end

/-! ### The diff engine (R155 to R160, R167) -/

section
namespace Sys2Proof.Machine

/-- Settles O54: the integer test, divided by the denominator and rounded down. -/
theorem dirtyIsTheRationalTest : Obligations.DirtyIsTheRationalTest := fun acc new old hacc =>
  ⟨isDirty_iff_rational acc new old, isDirty_iff_threshold_lt acc new old hacc, delta_natAbs_le new old⟩

/-- Settles O55: `delta` is 0, which no threshold is below. -/
theorem cancellingChangesAreClean : Obligations.CancellingChangesAreClean := fun acc new old hacc hsum =>
  isDirty_of_delta_eq_zero acc new old hacc ((delta_eq_zero_iff new old).2 hsum)

/-- Settles O56: no key is dirty at threshold 765, nor where `delta` is 0. -/
theorem noRunsAtAccuracyZeroOrForTheSameFrame : Obligations.NoRunsAtAccuracyZeroOrForTheSameFrame :=
  fun acc tgt shadow hacc =>
    ⟨frameRuns_eq_nil 0 tgt shadow fun _ _ => isDirty_zero _ _,
      frameRuns_eq_nil acc shadow shadow fun _ _ => isDirty_of_delta_eq_zero acc _ _ hacc (delta_self _)⟩

/-- Settles O57: the bounds of every scan, and the ends of the groups it makes. -/
theorem runsAreBoundedByDirtyKeys : Obligations.RunsAreBoundedByDirtyKeys := by
  intro dirty r hr
  obtain ⟨hpos, hcap, hend⟩ := runs_within none dirty r hr
  obtain ⟨hfirst, hlast⟩ := (runs_none_grouped dirty).ends r hr
  exact ⟨hpos, hcap, hend, hfirst, hlast⟩

/-- Settles O58: the groups of the scan cover the dirty keys, and runs of 18 keys that begin 18 keys apart share none. -/
theorem runsCoverEachDirtyKeyOnce : Obligations.RunsCoverEachDirtyKeyOnce := by
  intro dirty
  have hgrouped := runs_none_grouped dirty
  refine ⟨hgrouped.ascending, fun k hk => ?_, runs_none_length_le dirty⟩
  obtain ⟨r, hr, hholds⟩ := hgrouped.covers k (Nat.zero_le k) hk
  exact ⟨r, ⟨hr, hholds⟩, fun r' ⟨hr', hholds'⟩ => eq_of_holds hr' hr hholds' hholds⟩

/-- Settles O59: the scan passes over the clean keys in front of the span. -/
theorem contiguousSpanSplitsAtCapacity : Obligations.ContiguousSpanSplitsAtCapacity := by
  intro a n b
  rw [runs, List.append_assoc, scanRuns_replicate_false_append, Nat.zero_add, scanRuns_none_span]

end Sys2Proof.Machine
end

section
/-! SUPPORT. What an ok WRITE_FRAME leaves: a `shadow` against which no key of its frame is dirty, whatever the number of
its runs (R160, R161, R172), and a block that takes the next request (R110). -/

namespace Sys2Proof.Machine

/-! ### `shadow` after the reports of the runs (R163, R172) -/

/-- After the descriptors of some runs are confirmed in order, a key has its target colour, or no run holds it and it
keeps its own. -/
theorem keyRead_foldl_confirmIn_runs (tgt shadow : Frame) (rs : List Run) (k : Nat) (hk : k < 126) :
    keyRead ((rs.map Run.descriptor).foldl (BodyReport.confirmIn tgt) shadow) k = keyRead tgt k ∨
    keyRead ((rs.map Run.descriptor).foldl (BodyReport.confirmIn tgt) shadow) k = keyRead shadow k ∧
      ∀ r ∈ rs, ¬ r.Holds k := by
  induction rs generalizing shadow with
  | nil => exact .inr ⟨rfl, nofun⟩
  | cons r rs ih =>
    rw [List.map_cons, List.foldl_cons]
    have hread := keyRead_copyKeys r.offset r.length tgt shadow k
    obtain htgt | ⟨hkept, hnone⟩ := ih (r.descriptor.confirmIn tgt shadow)
    · exact .inl htgt
    · by_cases hholds : r.Holds k
      · rw [if_pos ⟨hholds, hk⟩] at hread
        exact .inl (hkept.trans hread)
      · rw [if_neg fun h => hholds h.1] at hread
        exact .inr ⟨hkept.trans hread, List.forall_mem_cons.2 ⟨hholds, hnone⟩⟩

/-- Up to six runs are the body reports of their plan, in order (R163). -/
theorem flatten_writeFramePlan_of_le (rs : List Run) (hfew : rs.length ≤ 6) :
    (writeFramePlan rs).flatten = rs.map Run.descriptor := by
  obtain rfl | hne := eq_or_ne rs []
  · rfl
  · rw [writeFramePlan_of_le rs (List.length_pos_iff.2 hne) hfew, List.flatten_singleton]

/-- When all reports of a WRITE_FRAME are confirmed, no key of its frame is dirty any more: the runs have copied those
that were (R172). -/
theorem isDirty_confirmed_writeFramePlan (acc : BitVec 16) (tgt shadow : Frame) (hacc : acc.toNat ≤ 0x8000) (k : Nat)
    (hk : k < 126) :
    isDirty acc (keyRead tgt k) (keyRead ((planReports (writeFramePlan (frameRuns acc tgt shadow))).foldl
      (ReportKind.confirmIn tgt) shadow) k) = false := by
  have hcopied : isDirty acc (keyRead tgt k) (keyRead tgt k) = false :=
    isDirty_of_delta_eq_zero acc _ _ hacc (delta_self _)
  obtain hmany | hfew := Nat.lt_or_ge 6 (frameRuns acc tgt shadow).length
  · rw [writeFramePlan_of_lt _ hmany, foldl_confirmIn_fullFramePlan, hcopied]
  · rw [foldl_confirmIn_planReports, flatten_writeFramePlan_of_le _ hfew]
    obtain htgt | ⟨hkept, hnone⟩ := keyRead_foldl_confirmIn_runs tgt shadow (frameRuns acc tgt shadow) k hk
    · rw [htgt, hcopied]
    · rw [hkept, Bool.eq_false_iff]
      intro hdirty
      obtain ⟨r, hr, hholds⟩ := exists_frameRuns_holds acc tgt shadow k hk hdirty
      exact hnone r hr hholds

/-! ### The end of an ok WRITE_FRAME (R110, R162, R169) -/

/-- The delivery behind the last END leaves no response pending, and no reset event is asserted. -/
theorem State.RunsAt.delivered_idle {t u : State} {plan : Plan} (h : t.RunsAt plan 0 .start)
    (hv : planValid plan = true) (hne : plan ≠ []) (hok : t.okFor (planSends plan))
    (hafter : t.after (planSends plan + 1) = .next u) : u.resetLine = false ∧ u.rsp = none := by
  obtain ⟨v, hgroups, hl, -⟩ := State.RunsAt.after_groups_ok hv plan 0 rfl hne t h hok
  have hlv := (v.finishExecute_resetLine .ok).trans hl
  have hdeliver := step_deliver _ _ hlv (v.finishExecute_rsp .ok)
  obtain rfl := Host.Outcome.next.inj (hafter.symm.trans (State.after_step t _ _ _ hgroups hdeliver))
  exact ⟨hlv, rfl⟩

/-- A WRITE_FRAME with no run sends nothing: its acceptance ends the operation (R162). -/
theorem writeFrame_without_runs (s : State) (w : ReqWord) (h : Header) (hp : s.Presents w)
    (hdec : decodeRequest w = .writeFrame h) (hres : h.ReservedClear) (hlen : h.len = 126)
    (hacc : h.acc.toNat ≤ 0x8000) (hses : s.session = .initialized)
    (hnone : frameRuns h.acc (s.frm.map laneColor) s.shadow = []) :
    ∃ u, s.after 2 = .next u ∧ s.FrameUpdated [] (s.frm.map laneColor) u ∧ u.resetLine = false ∧ u.rsp = none := by
  have haccept := (writeFrameDecidesByItsRuns h s _ hp.notBusy hp.idle hses hres hlen hacc rfl).1 hnone
  rw [← hdec, ← step_request s w hp] at haccept
  refine ⟨_, State.after_step s _ _ 1 (State.after_succ s _ 0 haccept) (step_deliver _ _ hp.noReset rfl),
    ⟨rfl, rfl, hp.idle, hses, rfl, rfl, ?_⟩, hp.noReset, rfl⟩
  exact (List.append_nil _).symm

/-- A WRITE_FRAME whose `Send`s are all ok, with any number of runs, sends the reports of its plan and answers OK; then
the block takes the next request (R110, R169). -/
theorem writeFrame_updates (s : State) (w : ReqWord) (h : Header) (rs : List Run) (hp : s.Presents w)
    (hdec : decodeRequest w = .writeFrame h) (hres : h.ReservedClear) (hlen : h.len = 126)
    (hacc : h.acc.toNat ≤ 0x8000) (hses : s.session = .initialized)
    (hrs : rs = frameRuns h.acc (s.frm.map laneColor) s.shadow) (hok : s.okFor (planSends (writeFramePlan rs))) :
    ∃ u, s.after (planSends (writeFramePlan rs) + 2) = .next u ∧
      s.FrameUpdated (planReports (writeFramePlan rs)) (s.frm.map laneColor) u ∧
      u.resetLine = false ∧ u.rsp = none := by
  obtain rfl | hne := eq_or_ne rs []
  · exact writeFrame_without_runs s w h hp hdec hres hlen hacc hses hrs.symm
  have hpos := List.length_pos_iff.2 hne
  obtain ⟨t, haccept, hstart⟩ := step_writeFrame_starts s w h rs hp hdec hres hlen hacc hses hrs hpos
  obtain ⟨u, hafter, hu⟩ := writeFrame_delivered s w h rs hp hdec hres hlen hacc hses hrs hpos hok
  exact ⟨u, hafter, hu, hstart.runsAt.delivered_idle (planValid_writeFramePlan rs (hrs ▸ frameRuns_within _ _ _))
    (writeFramePlan_ne_nil rs hne) (by rwa [State.okFor, hstart.draws])
    ((State.after_succ s t _ haccept).symm.trans hafter)⟩

/-- No key of the frame is dirty against what an ok WRITE_FRAME has left in `shadow` (R172). -/
theorem State.FrameUpdated.isDirty_eq_false {s u : State} {acc : BitVec 16} {tgt : Frame}
    (hu : s.FrameUpdated (planReports (writeFramePlan (frameRuns acc tgt s.shadow))) tgt u)
    (hacc : acc.toNat ≤ 0x8000) (k : Nat) (hk : k < 126) :
    isDirty acc (keyRead tgt k) (keyRead u.shadow k) = false :=
  hu.shadow ▸ isDirty_confirmed_writeFramePlan acc tgt s.shadow hacc k hk

end Sys2Proof.Machine
end

/-! ### A whole WRITE_FRAME and its repetition (R170, R172) -/

section
namespace Sys2Proof.Machine

/-- Settles O51: the clean keys of the frame, read against the floor threshold. -/
theorem writeFrameLeavesNoKeyDirty : Obligations.WriteFrameLeavesNoKeyDirty := by
  intro s w h hp hdec hres hlen hacc hses hok
  obtain ⟨t, hafter, ht, -⟩ := writeFrame_updates s w h _ hp hdec hres hlen hacc hses rfl hok
  exact ⟨_, t, _, Nat.add_le_add_right (planSends_writeFramePlan_le _) 2, hafter, ht.responses, ht.busy,
    (rspWord_fields _ .ok).1, ht.session,
    fun k hk => (isDirty_eq_false_iff_le_threshold h.acc _ _ hacc).1 (ht.isDirty_eq_false hacc k hk)⟩

/-- Settles O52: the first request leaves no key dirty, so the second one has no run. -/
theorem repeatedWriteFrameSendsNothing : Obligations.RepeatedWriteFrameSendsNothing := by
  intro s w h hp hdec hres hlen hacc hses hok
  obtain ⟨t, hafter, ht, hreset, hrsp⟩ := writeFrame_updates s w h _ hp hdec hres hlen hacc hses rfl hok
  have hp' : ({ t with req := some w, frm := s.frm } : State).Presents w := ⟨hreset, hrsp, ht.seq, ht.busy, rfl⟩
  obtain ⟨u, hafter', hu, -⟩ := writeFrame_without_runs _ w h hp' hdec hres hlen hacc ht.session
    (frameRuns_eq_nil h.acc _ t.shadow (ht.isDirty_eq_false hacc))
  refine ⟨_, t, u, hafter, ht.busy, ?_, hafter', hu.responses, ?_, hu.draws, hu.shadow, hu.busy⟩
  · rw [ht.responses, List.length_append, List.length_singleton]
  · exact hu.trace.trans (List.append_nil _)

end Sys2Proof.Machine
end

section
/-! SUPPORT. `Check` by its tables: the order of its tests, the sessions that allow an op and the fields that are bad for
one (R182, R183, R185). -/

namespace Sys2Proof.Machine

/-- What `Check` refuses before it looks at the session: a reserved op code or a set reserved bit (R182). -/
def UsesReserved (op : BitVec 3) (h : Header) : Prop :=
  op = opReserved011 ∨ op = opReserved111 ∨ h.rsv76 ≠ 0 ∨ h.rsv15 ≠ 0

theorem not_usesReserved_iff (op : BitVec 3) (h : Header) :
    ¬ UsesReserved op h ↔ (op ≠ opReserved011 ∧ op ≠ opReserved111) ∧ h.ReservedClear := by
  simp [UsesReserved, Header.ReservedClear, and_assoc]

/-- Everything `Check` can answer, by the first of its tests that fails (R185). -/
theorem check_cases (op : BitVec 3) (h : Header) (ses : Session) :
    (UsesReserved op h ∧ check op h ses = .validationError) ∨
    (¬ UsesReserved op h ∧ sessionAllows op ses = false ∧ check op h ses = .sessionStateError) ∨
    (¬ UsesReserved op h ∧ sessionAllows op ses = true ∧ fieldsValid op h = false ∧
      check op h ses = .validationError) ∨
    (¬ UsesReserved op h ∧ sessionAllows op ses = true ∧ fieldsValid op h = true ∧ check op h ses = .ok) := by
  by_cases hres : UsesReserved op h
  · refine .inl ⟨hres, ?_⟩
    obtain hop | hop | hbits := hres
    · exact check_reserved op h ses (.inl hop)
    · exact check_reserved op h ses (.inr hop)
    · simp only [check, if_pos hbits, ite_self]
  · obtain ⟨hop, h76, h15⟩ := (not_usesReserved_iff op h).1 hres
    cases hses : sessionAllows op ses with
    | false => exact .inr (.inl ⟨hres, rfl, by simp [check, hop, h76, h15, hses]⟩)
    | true =>
      cases hfld : fieldsValid op h with
      | false => exact .inr (.inr (.inl ⟨hres, rfl, rfl, by simp [check, hop, h76, h15, hses, hfld]⟩))
      | true => exact .inr (.inr (.inr ⟨hres, rfl, rfl, check_eq_ok_of op h ses hop ⟨h76, h15⟩ hses hfld⟩))

/-- The table of R183, for the real op codes. -/
theorem sessionAllows_iff (op : BitVec 3) (ses : Session) (hop : op ≠ opReserved011 ∧ op ≠ opReserved111) :
    sessionAllows op ses = true ↔
      (op = opSelect ∧ ses = .disconnected) ∨ (op = opOpen ∧ ses = .selected) ∨ op = opClose ∨
      (op = opInit ∧ (ses = .opened ∨ ses = .initialized)) ∨
      ((op = opWriteFrame ∨ op = opWriteFullFrame) ∧ ses = .initialized) := by
  revert op; cases ses <;> decide

/-- The field rows of R182's table. -/
theorem fieldsValid_eq_false_iff (op : BitVec 3) (h : Header) :
    fieldsValid op h = false ↔
      (op = opInit ∧ (h.prof = 0 ∨ (h.uf = 1 ∧ h.len ≠ 126))) ∨
      (op = opWriteFrame ∧ (h.len ≠ 126 ∨ 0x8000 < h.acc.toNat)) ∨ (op = opWriteFullFrame ∧ h.len ≠ 126) := by
  have huf : h.uf ≠ 0#1 ↔ h.uf = 1#1 := by bv_omega
  unfold fieldsValid
  split
  next hop => subst hop; simp [huf, opInit, opWriteFrame, opWriteFullFrame, or_iff_not_imp_left]
  split
  next hop => subst hop; simp [opInit, opWriteFrame, opWriteFullFrame, imp_iff_not_or]
  split
  next hop => subst hop; simp [opInit, opWriteFrame, opWriteFullFrame]
  next hinit hframe hfull => simp [hinit, hframe, hfull]

end Sys2Proof.Machine
end

section
/-! SUPPORT. What a step does where `seq` is valid (R27, R180). -/

namespace Sys2Proof.Machine

/-- A sequencer that is valid stands at a report whose operands are in range (R27). -/
theorem Sequencer.dueKind_of_valid (plan : Plan) (g : Nat) (pos : Pos)
    (hv : (Sequencer.running plan g pos).valid = true) :
    ∃ k, dueKind plan g pos = some k ∧ k.toInstr.wellFormed = true := by
  obtain ⟨hsome, hplan⟩ := Bool.and_eq_true_iff.1 hv
  obtain ⟨k, hk⟩ := Option.isSome_iff_exists.1 hsome
  exact ⟨k, hk, dueKind_wellFormed plan g pos k hplan hk⟩

/-- The two faults of a step are a `seq` outside its plan and an operand out of range: where `seq` is valid there is
neither. -/
theorem exists_step_of_seq_valid (s : State) (hv : s.seq.valid = true) : ∃ t, step s = .next t := by
  cases hl : s.resetLine with
  | true => exact ⟨_, step_reset s hl⟩
  | false =>
    cases hr : s.rsp with
    | some r => exact ⟨_, step_deliver s r hl hr⟩
    | none =>
      cases hs : s.seq with
      | running plan g pos =>
        obtain ⟨k, hk, hwf⟩ := Sequencer.dueKind_of_valid plan g pos (hs ▸ hv)
        exact ⟨_, (step_running s plan g pos k hl hr hs hk).trans (exec_report k s hwf)⟩
      | idle =>
        cases hb : s.busy with
        | true => exact ⟨_, step_blocked s hl hr hs hb⟩
        | false =>
          cases hq : s.req with
          | none => exact ⟨_, step_hostMove s hl hr hs hb hq⟩
          | some w =>
            exact ⟨_, (step_request s w ⟨hl, hr, hs, hb, hq⟩).trans
              (exec_request _ _ _ s (decodeRequest_request? w))⟩

end Sys2Proof.Machine
end

/-! ### Errors: what `Check` answers, what a rejection leaves, and no other exception (R180, R182 to R185) -/

section
namespace Sys2Proof.Machine

/-- Settles O19: the four answers of `Check`, each against the tables of the sessions and of the fields. -/
theorem checkFollowsTheTables : Obligations.CheckFollowsTheTables := by
  intro op h ses allowed badField reserved
  have hreserved : UsesReserved op h ↔ reserved := Iff.rfl
  have hallowed (hres : ¬ UsesReserved op h) : sessionAllows op ses = true ↔ allowed :=
    sessionAllows_iff op ses ((not_usesReserved_iff op h).1 hres).1
  have hbad : fieldsValid op h = false ↔ badField := fieldsValid_eq_false_iff op h
  obtain ⟨hres, hc⟩ | ⟨hres, hses, hc⟩ | ⟨hres, hses, hfld, hc⟩ | ⟨hres, hses, hfld, hc⟩ := check_cases op h ses <;>
    rw [hc, ← hreserved]
  · simp [hres]
  · simp [hres, ← hallowed hres, hses]
  · simp [hres, ← hallowed hres, hses, ← hbad, hfld]
  · simp [hres, ← hallowed hres, hses, ← hbad, hfld]

/-- Settles O20: a rejected request ends at once, beside its latches with the code of `Check` alone. -/
theorem rejectedRequestDoesNoIO : Obligations.RejectedRequestDoesNoIO :=
  fun i op h s hi hbusy hseq hc => exec_request_rejected i op h s hi hbusy hseq hc

/-- Settles O38: the invariant keeps `seq` valid. -/
theorem invariantStatesNeverStop : Obligations.InvariantStatesNeverStop := fun s hs =>
  exists_step_of_seq_valid s hs.seqValid

end Sys2Proof.Machine
end

section
/-! SUPPORT. The reset event, a report that is never answered, and the `Send`s left of an answered operation (R94, R206,
R213, R216). -/

namespace Sys2Proof.Machine

/-! ### What the reset event leaves in the trace (R206) -/

theorem abandonedTrace_of_tx_none (s : State) (h : s.tx = none) : abandonedTrace s = s.trace := by
  simp [abandonedTrace, h]

theorem abandonedTrace_of_tx_some (s : State) (r : Report) (h : s.tx = some r) :
    abandonedTrace s = s.trace ++ [⟨r, none⟩] := by
  simp [abandonedTrace, h]

/-! ### A report that waits for its answer (R94, R213) -/

/-- The block stands at report `k` of its plan, and the transport lists no answer. -/
structure State.AwaitsAnswer (s : State) (plan : Plan) (g : Nat) (pos : Pos) (k : ReportKind) : Prop
    extends s.RunsAt plan g pos where
  due : dueKind plan g pos = some k
  inRange : k.toInstr.wellFormed = true
  noDraw : s.draws = []

/-- A running operation has no response pending, and its `seq` stands at a report in range (R27, R29). -/
theorem State.Inv.exists_runsAt {s : State} (hs : s.Inv) (hne : s.seq ≠ .idle) (hl : s.resetLine = false) :
    ∃ plan g pos k, s.RunsAt plan g pos ∧ dueKind plan g pos = some k ∧ k.toInstr.wellFormed = true := by
  have hr : s.rsp = none := by
    by_contra hr
    exact hne (hs.rspIdle hr)
  cases hseq : s.seq with
  | idle => exact absurd hseq hne
  | running plan g pos =>
    obtain ⟨k, hk, hw⟩ := Sequencer.dueKind_of_valid plan g pos (hseq ▸ hs.seqValid)
    exact ⟨plan, g, pos, k, ⟨hl, hr, hseq⟩, hk, hw⟩

/-- Handing over again the report that is in flight changes nothing: the packet is built from the same `tgt` (R58). -/
theorem State.submit_submit (s : State) (k : ReportKind) : (s.submit k).submit k = s.submit k := rfl

section
variable {s : State} {plan : Plan} {g : Nat} {pos : Pos} {k : ReportKind}

theorem State.AwaitsAnswer.step (h : s.AwaitsAnswer plan g pos k) : step s = .next (s.submit k) := by
  rw [h.step_eq_transact k h.due h.inRange, s.transact_waits k h.noDraw]

theorem State.AwaitsAnswer.submit (h : s.AwaitsAnswer plan g pos k) : (s.submit k).AwaitsAnswer plan g pos k :=
  ⟨⟨h.noReset, h.noResponse, h.seq⟩, h.due, h.inRange, h.noDraw⟩

/-- Whatever the host drives, the block waits on (R53, R55). -/
theorem State.AwaitsAnswer.setPorts (h : s.AwaitsAnswer plan g pos k) (frm : Lanes) (req : Option ReqWord)
    (host : List HostRequest) : (s.setPorts frm req host).AwaitsAnswer plan g pos k :=
  ⟨⟨h.noReset, h.noResponse, h.seq⟩, h.due, h.inRange, h.noDraw⟩

/-- Beyond its first step a wait changes nothing at all. -/
theorem State.AwaitsAnswer.after_succ (h : s.AwaitsAnswer plan g pos k) (n : Nat) :
    s.after (n + 1) = .next (s.submit k) := by
  induction n with
  | zero => exact State.after_succ s _ 0 h.step
  | succ n ih => exact State.after_step s _ _ _ ih (s.submit_submit k ▸ h.submit.step)

/-- A wait of any number of steps keeps everything but the packet buffer and the report in flight. -/
theorem State.AwaitsAnswer.after (h : s.AwaitsAnswer plan g pos k) (n : Nat) :
    ∃ t, s.after n = .next t ∧ t.AwaitsAnswer plan g pos k ∧ ∃ p x, t = { s with pkt := p, tx := x } := by
  cases n with
  | zero => exact ⟨s, s.after_zero, h, s.pkt, s.tx, rfl⟩
  | succ n => exact ⟨s.submit k, h.after_succ n, h.submit, _, _, rfl⟩

end

/-! ### The way to the delivery of the response (R110, R216) -/

/-- The operation in progress ends within `n` steps and its response is delivered. -/
def State.DeliversWithin (s : State) (n : Nat) : Prop :=
  ∃ k t r, k ≤ n ∧ s.after k = .next t ∧ t.busy = false ∧ t.seq = .idle ∧ t.responses = s.responses ++ [r]

theorem State.DeliversWithin.mono {s : State} {m n : Nat} (h : s.DeliversWithin m) (hmn : m ≤ n) :
    s.DeliversWithin n := by
  obtain ⟨k, t, r, hk, ht⟩ := h
  exact ⟨k, t, r, hk.trans hmn, ht⟩

theorem State.DeliversWithin.of_step {s t : State} {n : Nat} (h : t.DeliversWithin n) (hstep : step s = .next t)
    (hresp : t.responses = s.responses) : s.DeliversWithin (n + 1) := by
  obtain ⟨k, u, r, hk, hafter, hbusy, hseq, hu⟩ := h
  exact ⟨k + 1, u, r, Nat.succ_le_succ hk, (State.after_succ s t k hstep).trans hafter, hbusy, hseq, hresp ▸ hu⟩

/-- A pending response is delivered by the next step. -/
theorem State.deliversWithin_one {s : State} (r : RspWord) (hl : s.resetLine = false) (hr : s.rsp = some r)
    (hseq : s.seq = .idle) : s.DeliversWithin 1 :=
  ⟨1, s.deliver r, r, le_rfl, State.after_succ s _ 0 (step_deliver s r hl hr), rfl, hseq, rfl⟩

/-- An answered transaction takes one draw and leaves fewer `Send`s to make, whatever its outcome (R106). -/
theorem State.transact_answered (s : State) (plan : Plan) (g : Nat) (pos : Pos) (k : ReportKind)
    (hseq : s.seq = .running plan g pos) (hk : dueKind plan g pos = some k) (hd : s.draws ≠ []) :
    (s.transact k).seq.sendsLeft < s.seq.sendsLeft ∧ s.draws.length = (s.transact k).draws.length + 1 := by
  constructor
  · obtain ⟨hnone, -⟩ | ⟨u, o, ht, hu, -⟩ := s.transact_waits_or_advances k
    · exact absurd hnone hd
    rw [ht, hseq]
    obtain ⟨code, ha⟩ | ⟨g', pos', ha, -, -, hless⟩ := u.advance_cases o plan g pos k (hu.trans hseq) hk <;> rw [ha]
    · rw [State.finishExecute_seq]
      exact sendsLeft_pos plan g pos
    · exact hless
  · obtain ⟨hnone, -⟩ | ⟨d, later, hcons, -, ht⟩ | ⟨d, later, hcons, -, ht⟩ := s.transact_cases k
    · exact absurd hnone hd
    · simp [ht, hcons]
    · simp [ht, hcons]

/-- With an answer for each `Send` left, a busy block makes at most those `Send`s and then delivers its response. -/
theorem State.Inv.deliversWithin {s : State} (hs : s.Inv) (hl : s.resetLine = false) (hbusy : s.busy = true)
    (hdraws : s.seq.sendsLeft ≤ s.draws.length) : s.DeliversWithin (s.seq.sendsLeft + 1) := by
  induction hn : s.seq.sendsLeft using Nat.strong_induction_on generalizing s with
  | _ n ih =>
    subst hn
    by_cases hidle : s.seq = .idle
    · have hpending : s.rsp ≠ none := (hs.busyExact.1 hbusy).resolve_left (not_not_intro hidle)
      obtain ⟨r, hr⟩ := Option.ne_none_iff_exists'.1 hpending
      exact (State.deliversWithin_one r hl hr hidle).mono (Nat.le_add_left 1 _)
    · obtain ⟨plan, g, pos, k, hat, hk, hw⟩ := hs.exists_runsAt hidle hl
      have hpos : 0 < s.seq.sendsLeft := hat.seq ▸ sendsLeft_pos plan g pos
      obtain ⟨hless, hlen⟩ := s.transact_answered plan g pos k hat.seq hk (List.length_pos_iff.1 (hpos.trans_le hdraws))
      have hnext := ih _ hless (hs.transact plan g pos k hat.noResponse hat.seq hk) ((s.transact_resetLine k).trans hl)
        ((s.transact_busy k).trans hbusy) (by omega) rfl
      exact (hnext.of_step (hat.step_eq_transact k hk hw) (s.transact_responses k)).mono (Nat.succ_le_succ hless)

end Sys2Proof.Machine
end

/-! ### Reset, waiting and ending (R205, R206, R213, R216) -/

section
namespace Sys2Proof.Machine

/-- Settles O10: the fields of the state after reset, where nothing comes before the host's move. -/
theorem resetValues : Obligations.ResetValues :=
  ⟨rfl, fun k hk => keyRead_replicate Config.shadowResetColor k hk, rfl, rfl, rfl, rfl, rfl⟩

/-- Settles O11: the step is the reset event, whose trace gains the report in flight, if there is one. -/
theorem resetEventAbandonsTheOperation : Obligations.ResetEventAbandonsTheOperation := by
  intro s hl
  rw [step_reset s hl, State.resetEvent]
  cases htx : s.tx with
  | none => rw [abandonedTrace_of_tx_none s htx, List.append_nil]
  | some r => rw [abandonedTrace_of_tx_some s r htx]

/-- Settles O45: the wait hands over the same report at every step, under any ports, and the reset event ends it. -/
theorem unansweredSendBlocksUntilReset : Obligations.UnansweredSendBlocksUntilReset := by
  intro s hs hne hl hd n
  have hbusy : s.busy = true := hs.busy_of_running hne
  obtain ⟨plan, g, pos, k, hat, hk, hw⟩ := hs.exists_runsAt hne hl
  obtain ⟨_, hafter, hwait, p, x, rfl⟩ := State.AwaitsAnswer.after ⟨hat, hk, hw, hd⟩ n
  refine ⟨_, hafter, hbusy, rfl, rfl, rfl, rfl, fun frm req host => ?_, ?_⟩
  · exact ⟨_, (hwait.setPorts frm req host).step, hbusy, rfl⟩
  · exact ⟨_, step_reset _ rfl, rfl, rfl⟩

/-- Settles O46: at most 21 `Send`s are left in a state of the invariant (R133), and the delivery is one step more. -/
theorem everyAnsweredOperationEnds : Obligations.EveryAnsweredOperationEnds := by
  intro s hs hl hbusy hdraws
  have hleft : s.seq.sendsLeft ≤ 21 := (Nat.le_add_left _ _).trans hs.sentBound
  exact (hs.deliversWithin hl hbusy hdraws).mono (Nat.succ_le_succ hleft)

end Sys2Proof.Machine
end
